-- ==== Sys2Proof/Word.lean ====
section
/-! DEFINITION. The word types of the block: a data byte, the playfield mask and its programmed half. -/

namespace Sys2Proof

/-- A byte, 8 bits (00_scope.md R9). -/
abbrev Byte := BitVec 8

/-- The 40 playfield cells, bit `c` for cell `c` (10_state.md R25). -/
abbrev Mask := BitVec 40

/-- The 20 programmed cells, or their 20-bit extension (10_state.md R25). -/
abbrev Pattern := BitVec 20

end Sys2Proof
end

