-- ==== Sys2Proof/Syntax.lean ====
section
/-! DEFINITION. The operations of the block as syntax (30_encoding.md R70), and the requests and inputs
that reach it from outside (30_encoding.md R71 to R73, R84; 60_exceptions.md R173). -/

namespace Sys2Proof

/-- A register identifier (00_scope.md R13): the document's handler, as a tag. -/
inductive RegId where
  | vsync | vblank | wsync | colupf | colubk | ctrlpf | pf0 | pf1 | pf2
  deriving DecidableEq, Repr

/-- The nine registers, in the order in which NEW registers them (40_bus_access.md R90). -/
def RegId.all : List RegId :=
  [.vsync, .vblank, .wsync, .colupf, .colubk, .ctrlpf, .pf0, .pf1, .pf2]

/-- The two dispatch tables WT and RT (10_state.md R34). -/
inductive Table where
  | write | read
  deriving DecidableEq, Repr

/-- One constructor for each row of the operation table (30_encoding.md R70, R83). Addresses and counts are
natural numbers: every quantity of the block is one (00_scope.md R10). -/
inductive Instr where
  /-- W VSYNC: the write transaction that selects handler H_VSYNC. -/
  | wVsync (value : Byte)
  /-- W VBLANK. -/
  | wVblank (value : Byte)
  /-- W WSYNC. -/
  | wWsync (value : Byte)
  /-- W COLUPF. -/
  | wColupf (value : Byte)
  /-- W COLUBK. -/
  | wColubk (value : Byte)
  /-- W CTRLPF. -/
  | wCtrlpf (value : Byte)
  /-- W PF0. -/
  | wPf0 (value : Byte)
  /-- W PF1. -/
  | wPf1 (value : Byte)
  /-- W PF2. -/
  | wPf2 (value : Byte)
  /-- BUS_WRITE(addr, value): the write transaction itself; decoding gives it for the addresses of no register
  row, since the most specific row wins (30_encoding.md R83). -/
  | busWrite (addr : Nat) (value : Byte)
  /-- BUS_READ(addr). -/
  | busRead (addr : Nat)
  /-- NEW(start_addr, end_addr). -/
  | new (startAddr endAddr : Nat)
  /-- CONTAINS(addr). -/
  | contains (addr : Nat)
  /-- GET_BUS_REGION(). -/
  | getBusRegion
  /-- PROCESS(c). -/
  | process (count : Nat)
  /-- LOOKUP(table, addr). -/
  | lookup (table : Table) (addr : Nat)
  /-- MIRROR_RECOMPUTE(). -/
  | mirrorRecompute
  /-- APPLY_PENDING(). -/
  | applyPending
  /-- CATCH_UP(). -/
  | catchUp
  /-- CHIP_CYCLE(). -/
  | chipCycle
  /-- BEAM_ADVANCE(). -/
  | beamAdvance
  /-- VSYNC_CHECK(). -/
  | vsyncCheck
  /-- PIXEL_EMIT(). -/
  | pixelEmit
  deriving DecidableEq, Repr

/-- The direction of a bus transaction: formats W and R (30_encoding.md R71, R72). -/
inductive Direction where
  | write | read
  deriving DecidableEq, Repr

/-- The host calls, format H (30_encoding.md R73). -/
inductive CallName where
  | new | contains | getBusRegion | process
  deriving DecidableEq, Repr

/-- The internal operations (30_encoding.md R70). -/
inductive PartName where
  | lookup (table : Table)
  | mirrorRecompute | applyPending | catchUp | chipCycle | beamAdvance | vsyncCheck | pixelEmit
  deriving DecidableEq, Repr

/-- What arrives at the interface, before decoding. A bus transaction is a direction and one word: the address in
the low ADDR_BITS bits and, for a write, the value in the eight bits above (30_encoding.md R71, R72; DESIGN CHOICE,
log entry 10: the spec keeps address and value apart). Host calls and internal operations have no bit layout
(R73, R83): they arrive by name with their arguments. `step` takes no request for an internal operation
(60_exceptions.md R173; log entry 14). -/
inductive Request where
  | bus (dir : Direction) (word : Nat)
  | call (name : CallName) (args : List Nat)
  | part (name : PartName) (args : List Nat)
  deriving DecidableEq, Repr

/-- What the surroundings may do (60_exceptions.md R173): a request, an advance of the CPU's counter by `n`
(`CPU n` of 30_encoding.md R84), or setting the stop flag (10_state.md R44). -/
inductive Input where
  | request (r : Request)
  | cpu (n : Nat)
  | stop
  deriving DecidableEq, Repr

/-- Why decoding rejects a request. -/
inductive DecodeError where
  /-- A bus word with a bit set above its address and value fields. -/
  | wordTooWide
  /-- An address argument outside the bus's ADDR_BITS-bit range. -/
  | addressTooWide
  /-- A call or internal operation with the wrong number of arguments. -/
  | wrongArguments
  deriving DecidableEq, Repr

end Sys2Proof
end

