-- ==== Sys2Proof/Config.lean ====
section
/-! DEFINITION. The parameter record P of 00_scope.md R6, its default P_DEFAULT, and the constraints of R7. -/

namespace Sys2Proof

/-- A read handler, named by a number: `function() -> byte` of 20_memory.md R54. What it returns is
`Config.readHandler` of Machine/State.lean (log entry 7). -/
abbrev ReadHandlerId := Nat

/-- INIT: the initial values of the fields the document does not initialise (00_scope.md R6, 10_state.md R42). -/
structure Init where
  vsyncMode : Bool
  vblankMode : Bool
  playfieldMask : Mask
  playfieldMirrored : Bool
  playfieldColor : Byte
  backgroundColor : Byte
  gunX : Nat
  gunY : Nat
  deriving DecidableEq, Repr

/-- The parameter record P (00_scope.md R6), one field for each row of its table. -/
structure Params where
  cycleRatio : Nat
  scanlineCpuCycles : Nat
  lineLength : Nat
  hblankWidth : Nat
  hblankCpuCycles : Nat
  vsyncLines : Nat
  vsyncLateLimit : Nat
  linesPerFrame : Nat
  startAddr : Nat
  endAddr : Nat
  addrBits : Nat
  offVsync : Nat
  offVblank : Nat
  offWsync : Nat
  offColupf : Nat
  offColubk : Nat
  offCtrlpf : Nat
  offPf0 : Nat
  offPf1 : Nat
  offPf2 : Nat
  readHandlers : List (Nat × ReadHandlerId)
  pf1Reversed : Bool
  cycleInit : Nat
  init : Init
  deriving DecidableEq, Repr

namespace Params

/-- OFF_r (00_scope.md R6). -/
def off (p : Params) : RegId → Nat
  | .vsync => p.offVsync
  | .vblank => p.offVblank
  | .wsync => p.offWsync
  | .colupf => p.offColupf
  | .colubk => p.offColubk
  | .ctrlpf => p.offCtrlpf
  | .pf0 => p.offPf0
  | .pf1 => p.offPf1
  | .pf2 => p.offPf2

/-- END_ADDR - START_ADDR: the locations of the region and the slots of each table (20_memory.md R52). -/
def regionSize (p : Params) : Nat := p.endAddr - p.startAddr

/-- The bus address of a register: START_ADDR + OFF_r (30_encoding.md R84). -/
def addrOf (p : Params) (r : RegId) : Nat := p.startAddr + p.off r

/-- Chip cycles in a frame (43_beam_model.md R137). -/
def frameLength (p : Params) : Nat := p.lineLength * p.linesPerFrame

/-- The initial beam offset B of 10_state.md R39. -/
def initBeam (p : Params) : Nat := p.init.gunX + p.lineLength * p.init.gunY

/-- The timing constraints of 00_scope.md R7. -/
def timingValid (p : Params) : Bool :=
  decide (1 ≤ p.cycleRatio) && decide (1 ≤ p.scanlineCpuCycles) &&
    decide (p.lineLength = p.cycleRatio * p.scanlineCpuCycles) &&
    decide (p.hblankWidth < p.lineLength) && decide (p.lineLength - p.hblankWidth ≤ 160) &&
    decide (1 ≤ p.vsyncLines) && decide (p.vsyncLines - 1 ≤ p.vsyncLateLimit) &&
    decide (p.vsyncLateLimit < p.linesPerFrame)

/-- The address constraints of 00_scope.md R7. -/
def addressValid (p : Params) : Bool :=
  decide (p.startAddr < p.endAddr) && decide (p.endAddr ≤ 2 ^ p.addrBits) &&
    decide ((RegId.all.map p.off).Nodup) &&
    RegId.all.all (fun r => decide (p.off r < p.regionSize)) &&
    p.readHandlers.all (fun e => decide (e.1 < p.regionSize))

/-- The ranges of the initial beam position (10_state.md R30, R31, R42; log entry 28). -/
def initValid (p : Params) : Bool :=
  decide (p.init.gunX < p.lineLength) && decide (p.init.gunY < p.linesPerFrame)

/-- A record that breaks a constraint is no configuration of this hardware (00_scope.md R7). -/
def valid (p : Params) : Bool := p.timingValid && p.addressValid && p.initValid

end Params

namespace Config

/-- The default INIT: all zero or false (10_state.md R42, decision D8; log entry 3). -/
def initDefault : Init where
  vsyncMode := false
  vblankMode := false
  playfieldMask := 0
  playfieldMirrored := false
  playfieldColor := 0
  backgroundColor := 0
  gunX := 0
  gunY := 0

/-- P_DEFAULT (00_scope.md R6), with the suggested region [0x0000, 0x0080). PRESUMED (log entry 2): the offsets, the
region, the address width and the 262 lines are the spec's defaults from general knowledge. -/
def pDefault : Params where
  cycleRatio := 3
  scanlineCpuCycles := 76
  lineLength := 228
  hblankWidth := 68
  hblankCpuCycles := 22
  vsyncLines := 3
  vsyncLateLimit := 3
  linesPerFrame := 262
  startAddr := 0x0000
  endAddr := 0x0080
  addrBits := 16
  offVsync := 0x00
  offVblank := 0x01
  offWsync := 0x02
  offColupf := 0x08
  offColubk := 0x09
  offCtrlpf := 0x0A
  offPf0 := 0x0D
  offPf1 := 0x0E
  offPf2 := 0x0F
  readHandlers := []
  pf1Reversed := false
  cycleInit := 0
  init := initDefault

end Config

end Sys2Proof
end

