-- ==== Sys2Proof/WellFormed.lean ====
section
/-! DEFINITION. Which operations are well formed for a parameter record: the operands fit their fields
(30_encoding.md R71 to R73) and the most specific row is used (R83). -/

namespace Sys2Proof

/-- `decode_write(off)` of 30_encoding.md R83 on a bus address: the register whose offset is exactly
`addr - START_ADDR`, if there is one. -/
def registerAt (p : Params) (addr : Nat) : Option RegId :=
  if p.startAddr ≤ addr then RegId.all.find? (fun r => p.off r == addr - p.startAddr) else none

/-- An ADDR_BITS-bit bus address (30_encoding.md R71). -/
def addressFits (p : Params) (addr : Nat) : Bool := decide (addr < 2 ^ p.addrBits)

/-- Each operand fits its field; a BUS_WRITE names no register's address (that transaction is the register's own
row, R83); the bounds of NEW are bus addresses, END_ADDR one past a bus address at most (00_scope.md R7). -/
def wellFormed (p : Params) : Instr → Bool
  | .wVsync _ => true
  | .wVblank _ => true
  | .wWsync _ => true
  | .wColupf _ => true
  | .wColubk _ => true
  | .wCtrlpf _ => true
  | .wPf0 _ => true
  | .wPf1 _ => true
  | .wPf2 _ => true
  | .busWrite addr _ => addressFits p addr && (registerAt p addr).isNone
  | .busRead addr => addressFits p addr
  | .new startAddr endAddr => addressFits p startAddr && decide (endAddr ≤ 2 ^ p.addrBits)
  | .contains addr => addressFits p addr
  | .getBusRegion => true
  | .process _ => true
  | .lookup _ addr => addressFits p addr
  | .mirrorRecompute => true
  | .applyPending => true
  | .catchUp => true
  | .chipCycle => true
  | .beamAdvance => true
  | .vsyncCheck => true
  | .pixelEmit => true

end Sys2Proof
end

