-- ==== Sys2Proof/Decode.lean ====
section
/-! DEFINITION. The dispatch tables built from the parameters, decoding of requests to operations (total, rejecting
by name), and the encoder (30_encoding.md R71 to R73, R83, R87). -/

namespace Sys2Proof

/-! ## The dispatch tables -/

/-- WT as NEW builds it (40_bus_access.md R90, 20_memory.md R53): one slot per offset, nine of them filled. -/
def buildWriteTable (p : Params) : List (Option RegId) :=
  RegId.all.foldl (fun t r => t.set (p.off r) (some r)) (List.replicate p.regionSize none)

/-- RT as NEW builds it (40_bus_access.md R90, 20_memory.md R54): filled from READ_TABLE, in its order. -/
def buildReadTable (p : Params) : List (Option ReadHandlerId) :=
  p.readHandlers.foldl (fun t e => t.set e.1 (some e.2)) (List.replicate p.regionSize none)

/-! ## Decoding -/

/-- The register row of a register: the write transaction that selects its handler (30_encoding.md R83). -/
def registerWrite : RegId → Byte → Instr
  | .vsync => .wVsync
  | .vblank => .wVblank
  | .wsync => .wWsync
  | .colupf => .wColupf
  | .colubk => .wColubk
  | .ctrlpf => .wCtrlpf
  | .pf0 => .wPf0
  | .pf1 => .wPf1
  | .pf2 => .wPf2

/-- Format W after its fields are taken apart: the most specific row wins (30_encoding.md R83). -/
def decodeWrite (p : Params) (addr : Nat) (value : Byte) : Instr :=
  match registerAt p addr with
  | some r => registerWrite r value
  | none => .busWrite addr value

/-- The fields of a bus word (30_encoding.md R71, R72): the address is the low ADDR_BITS bits, the value of a write
the eight bits above. -/
def decodeBus (p : Params) : Direction → Nat → Except DecodeError Instr
  | .write, word =>
    if word < 2 ^ p.addrBits * 256 then
      .ok (decodeWrite p (word % 2 ^ p.addrBits) (BitVec.ofNat 8 (word / 2 ^ p.addrBits)))
    else .error .wordTooWide
  | .read, word => if word < 2 ^ p.addrBits then .ok (.busRead word) else .error .wordTooWide

/-- The host calls by name (30_encoding.md R73). -/
def decodeCall (p : Params) : CallName → List Nat → Except DecodeError Instr
  | .new, [startAddr, endAddr] =>
    if addressFits p startAddr && decide (endAddr ≤ 2 ^ p.addrBits) then .ok (.new startAddr endAddr)
    else .error .addressTooWide
  | .contains, [addr] => if addressFits p addr then .ok (.contains addr) else .error .addressTooWide
  | .getBusRegion, [] => .ok .getBusRegion
  | .process, [count] => .ok (.process count)
  | _, _ => .error .wrongArguments

/-- The internal operations by name (30_encoding.md R70). -/
def decodePart (p : Params) : PartName → List Nat → Except DecodeError Instr
  | .lookup table, [addr] =>
    if addressFits p addr then .ok (.lookup table addr) else .error .addressTooWide
  | .mirrorRecompute, [] => .ok .mirrorRecompute
  | .applyPending, [] => .ok .applyPending
  | .catchUp, [] => .ok .catchUp
  | .chipCycle, [] => .ok .chipCycle
  | .beamAdvance, [] => .ok .beamAdvance
  | .vsyncCheck, [] => .ok .vsyncCheck
  | .pixelEmit, [] => .ok .pixelEmit
  | _, _ => .error .wrongArguments

/-- Decoding, total on every request. With non-default parameters the register rows move with them
(30_encoding.md R83). -/
def decode (p : Params) : Request → Except DecodeError Instr
  | .bus dir word => decodeBus p dir word
  | .call name args => decodeCall p name args
  | .part name args => decodePart p name args

/-! ## Encoding -/

/-- The word of a write transaction (30_encoding.md R71): the value above the ADDR_BITS address bits. -/
def writeWord (p : Params) (addr : Nat) (value : Byte) : Nat := addr + 2 ^ p.addrBits * value.toNat

/-- A register row as a write transaction to START_ADDR + OFF_r (30_encoding.md R83, R84). -/
def encodeRegister (p : Params) (r : RegId) (value : Byte) : Request :=
  .bus .write (writeWord p (p.addrOf r) value)

/-- The request that asks for an operation. -/
def encode (p : Params) : Instr → Request
  | .wVsync v => encodeRegister p .vsync v
  | .wVblank v => encodeRegister p .vblank v
  | .wWsync v => encodeRegister p .wsync v
  | .wColupf v => encodeRegister p .colupf v
  | .wColubk v => encodeRegister p .colubk v
  | .wCtrlpf v => encodeRegister p .ctrlpf v
  | .wPf0 v => encodeRegister p .pf0 v
  | .wPf1 v => encodeRegister p .pf1 v
  | .wPf2 v => encodeRegister p .pf2 v
  | .busWrite addr v => .bus .write (writeWord p addr v)
  | .busRead addr => .bus .read addr
  | .new startAddr endAddr => .call .new [startAddr, endAddr]
  | .contains addr => .call .contains [addr]
  | .getBusRegion => .call .getBusRegion []
  | .process count => .call .process [count]
  | .lookup table addr => .part (.lookup table) [addr]
  | .mirrorRecompute => .part .mirrorRecompute []
  | .applyPending => .part .applyPending []
  | .catchUp => .part .catchUp []
  | .chipCycle => .part .chipCycle []
  | .beamAdvance => .part .beamAdvance []
  | .vsyncCheck => .part .vsyncCheck []
  | .pixelEmit => .part .pixelEmit []

/-! ## The words of the operation table -/

/-- A word of the operation table as a request. The table's words are write transactions (the rows with fixed bits are
the nine of format W); the direction is not one of their bits (log entry 10). -/
def tableRequest (nbits w : Nat) : Request := .bus .write (w % 2 ^ nbits)

/-- The instruction read from the table's word `w` of `nbits` bits, with the default parameters. -/
def decodeTableWord (nbits w : Nat) : Option Instr :=
  match decode Config.pDefault (tableRequest nbits w) with
  | .ok i => some i
  | .error _ => none

end Sys2Proof
end

