-- ==== Sys2Proof/Machine/State.lean ====
section
/-! DEFINITION. The state of the block, its events, its stops, and the state after construction
(10_state.md R20 to R44, 60_exceptions.md R151). -/

namespace Sys2Proof.Machine

/-! ## Conditions and events -/

/-- A fatal condition with its recorded info (60_exceptions.md R151, codes 2 to 5). Code 5 is reserved and raised by
nothing (decision D20). -/
inductive FatalEvent where
  | invalidRegisterValue (register : RegId) (value : Byte)
  | vsyncMissing (gunX gunY chipCycleNum : Nat)
  | vsyncTooLong (gunX gunY chipCycleNum : Nat)
  | playfieldAccumulation
  deriving DecidableEq, Repr

/-- The access recorded with InvalidAddress (60_exceptions.md R151, code 1). -/
inductive Access where
  | read (addr : Nat)
  | write (addr : Nat) (value : Byte)
  deriving DecidableEq, Repr

/-- An event of the operator-visible channel (60_exceptions.md R152). -/
inductive DiagEvent where
  | invalidAddress (access : Access)
  | fatal (event : FatalEvent)
  deriving DecidableEq, Repr

/-- A pixel value: `Blank` is distinct from every colour code (43_beam_model.md R140). -/
inductive PixelValue where
  | blank
  | color (code : Byte)
  deriving DecidableEq, Repr

/-- The pixel event `(x, y, v)` (43_beam_model.md R140). -/
structure PixelEvent where
  x : Nat
  y : Nat
  value : PixelValue
  deriving DecidableEq, Repr

/-! ## Values handed back -/

/-- A bound handler of either table (10_state.md R34). -/
inductive Handler where
  | write (register : RegId)
  | read (handler : ReadHandlerId)
  deriving DecidableEq, Repr

/-- The chip operation bound to a member of the region object (40_bus_access.md R92). -/
inductive Hook where
  | contains | busRead | busWrite
  deriving DecidableEq, Repr

/-- The MemoryRegion record of GET_BUS_REGION (40_bus_access.md R92). -/
structure BusRegion where
  startAddr : Nat
  endAddr : Nat
  contains : Hook
  read : Hook
  write : Hook
  deriving DecidableEq, Repr

/-- What an operation hands back (`return v`, 00_scope.md R12): the byte of a read, the answer of CONTAINS, the
region object, `Hit(handler)` or `Miss` of LOOKUP, the chip of NEW. The model's own field (log entry 11). -/
inductive Answer where
  | byte (value : Byte)
  | claimed (yes : Bool)
  | region (r : BusRegion)
  | hit (h : Handler)
  | miss
  | chip
  deriving DecidableEq, Repr

/-! ## Stops -/

/-- The machine stops with a fault. -/
inductive Fault where
  /-- Raised by a beam operation (CHIP_CYCLE, BEAM_ADVANCE, VSYNC_CHECK, PIXEL_EMIT, CATCH_UP, PROCESS) in a state whose
  beam is off the raster, which 10_state.md R39 excludes. Safe: no run reaches it. -/
  | beamOffRaster
  deriving DecidableEq, Repr

/-- No step for the operation. Every one is safe: the model stops where the spec gives no step. -/
inductive Refusal where
  /-- Raised by an arm of `exec` whose instruction has no meaning yet. Safe. -/
  | notModelled (mnemonic : String)
  /-- Raised by every operation but NEW, and by an advance of the counter, before NEW has returned
  (40_bus_access.md R90, 93_implementation_defined.md V7). Safe. -/
  | notConstructed
  /-- Raised by a second NEW (40_bus_access.md R90). Safe. -/
  | secondNew
  /-- Raised by NEW, and by every operation in a state that no run reaches, on a parameter record that breaks
  00_scope.md R7. Safe. -/
  | badParameters
  /-- Raised by every operation but NEW once S.fatal is set (60_exceptions.md R154, decision D17). Safe. -/
  | halted
  /-- Raised by every host-visible operation but NEW, and by the CPU's advance, while a PROCESS has not returned
  (93_implementation_defined.md V7). Safe. -/
  | processRunning
  /-- Raised by PROCESS with an argument other than S.cycle_num (42_cycle_synchronizer.md R124). Safe. -/
  | processArgument
  /-- Raised by `step` on an input of the driving loop's thread after the stop flag has ended the loop at a boundary: the
  run is at its normal end, and nobody makes such an input any more (60_exceptions.md R171, R173). Safe. -/
  | stopped
  /-- Raised by `step` on a request for an internal operation, which nobody may make (30_encoding.md R70,
  60_exceptions.md R173). Safe. -/
  | internalOperation
  /-- Raised by `step` on a second GET_BUS_REGION, and on one after the emulation thread has started
  (60_exceptions.md R173). Safe. -/
  | startupOver
  /-- Raised by `step` on a request that decodes to nothing. Safe. -/
  | undecodable (error : DecodeError)
  deriving DecidableEq, Repr

/-! ## The state -/

/-- The state: the configuration fixed by NEW, the record S of 10_state.md R20, the two output streams of R33, and
the interface to the surroundings. -/
structure State where
  /-- P, whose START_ADDR and END_ADDR NEW sets (00_scope.md R6; log entry 1). -/
  params : Params
  /-- WT (10_state.md R34). -/
  writeTable : List (Option RegId)
  /-- RT (10_state.md R34). -/
  readTable : List (Option ReadHandlerId)
  /-- Whether NEW has returned (40_bus_access.md R90). -/
  constructed : Bool
  /-- R21. -/
  cycleNum : Nat
  /-- R22. -/
  chipCycleNum : Nat
  /-- R23. -/
  vsyncMode : Bool
  /-- R24. -/
  vblankMode : Bool
  /-- R25. -/
  playfieldMask : Mask
  /-- R26. -/
  playfieldMirrored : Bool
  /-- R27. -/
  playfieldColor : Byte
  /-- R28. -/
  backgroundColor : Byte
  /-- R29. -/
  pendingWrite : Option (RegId × Byte)
  /-- R30. -/
  gunX : Nat
  /-- R31. -/
  gunY : Nat
  /-- R32. -/
  fatal : Option FatalEvent
  /-- R33, oldest first. -/
  video : List PixelEvent
  /-- R33, oldest first. -/
  diag : List DiagEvent
  /-- The value handed back last (log entry 11). -/
  answer : Answer
  /-- A catch-up loop that cannot end is running (42_cycle_synchronizer.md R124; log entry 12). -/
  hung : Bool
  /-- The inputs not yet taken, the next one first (log entry 9). -/
  inbox : List Input
  /-- The driving loop stands between two instructions (60_exceptions.md R171; log entry 18). -/
  atBoundary : Bool
  /-- R44, the driving loop's. -/
  stopFlag : Bool
  /-- GET_BUS_REGION is still due: the start-up code has not called it, and the emulation thread has not started
  (60_exceptions.md R173, 70_reset_and_hazards.md R182; log entry 30). -/
  regionDue : Bool
  deriving DecidableEq, Repr

/-- The record S of 10_state.md R20 alone: what a rule means by "no field of `S`", and what a read handler sees. -/
structure Chip where
  cycleNum : Nat
  chipCycleNum : Nat
  vsyncMode : Bool
  vblankMode : Bool
  playfieldMask : Mask
  playfieldMirrored : Bool
  playfieldColor : Byte
  backgroundColor : Byte
  pendingWrite : Option (RegId × Byte)
  gunX : Nat
  gunY : Nat
  fatal : Option FatalEvent
  deriving DecidableEq, Repr

/-- S, out of the state. -/
def State.chip (s : State) : Chip where
  cycleNum := s.cycleNum
  chipCycleNum := s.chipCycleNum
  vsyncMode := s.vsyncMode
  vblankMode := s.vblankMode
  playfieldMask := s.playfieldMask
  playfieldMirrored := s.playfieldMirrored
  playfieldColor := s.playfieldColor
  backgroundColor := s.backgroundColor
  pendingWrite := s.pendingWrite
  gunX := s.gunX
  gunY := s.gunY
  fatal := s.fatal

end Sys2Proof.Machine

/-- What a read handler returns: a total function from S to a byte with no side effect (20_memory.md R54). A free value:
no rule supplies a handler (log entry 7). -/
opaque Sys2Proof.Config.readHandler (h : Sys2Proof.ReadHandlerId) (chip : Sys2Proof.Machine.Chip) : Sys2Proof.Byte

namespace Sys2Proof.Machine

/-- The process before its NEW: parameters fixed, the CPU's counter at CYCLE_INIT, nothing constructed
(70_reset_and_hazards.md R182). The chip's fields hold no meaning yet; NEW writes every one. -/
def State.beforeNew (p : Params) : State where
  params := p
  writeTable := []
  readTable := []
  constructed := false
  cycleNum := p.cycleInit
  chipCycleNum := 0
  vsyncMode := false
  vblankMode := false
  playfieldMask := 0
  playfieldMirrored := false
  playfieldColor := 0
  backgroundColor := 0
  pendingWrite := none
  gunX := 0
  gunY := 0
  fatal := none
  video := []
  diag := []
  answer := .miss
  hung := false
  inbox := []
  atBoundary := false
  stopFlag := false
  regionDue := true

/-- The state after the block's one reset event, NEW(0x0000, 0x0080) with the default parameters
(70_reset_and_hazards.md R180, 10_state.md R42; log entries 1 to 3). -/
def State.reset : State where
  params := Config.pDefault
  writeTable := buildWriteTable Config.pDefault
  readTable := buildReadTable Config.pDefault
  constructed := true
  cycleNum := 0
  chipCycleNum := 0
  vsyncMode := false
  vblankMode := false
  playfieldMask := 0
  playfieldMirrored := false
  playfieldColor := 0
  backgroundColor := 0
  pendingWrite := none
  gunX := 0
  gunY := 0
  fatal := none
  video := []
  diag := []
  answer := .chip
  hung := false
  inbox := []
  atBoundary := true
  stopFlag := false
  regionDue := true

end Sys2Proof.Machine
end

