-- ==== Sys2Proof/Machine/Ops.lean ====
section
/-! DEFINITION. The named operations over the state: its updates, the primitives `report`, `emit` and `raise Fatal` of
00_scope.md R12, the guards under which an operation has a step, and table lookup. -/

namespace Sys2Proof.Machine

/-- The outcome of an operation. -/
abbrev Result := Host.Outcome State Fault Refusal

/-! ## Updates: one field each (two for the beam) -/

def State.setCycleNum (n : Nat) (s : State) : State := { s with cycleNum := n }
def State.setChipCycleNum (n : Nat) (s : State) : State := { s with chipCycleNum := n }
def State.setVsyncMode (b : Bool) (s : State) : State := { s with vsyncMode := b }
def State.setVblankMode (b : Bool) (s : State) : State := { s with vblankMode := b }
def State.setPlayfieldMask (m : Mask) (s : State) : State := { s with playfieldMask := m }
def State.setPlayfieldMirrored (b : Bool) (s : State) : State := { s with playfieldMirrored := b }
def State.setPlayfieldColor (v : Byte) (s : State) : State := { s with playfieldColor := v }
def State.setBackgroundColor (v : Byte) (s : State) : State := { s with backgroundColor := v }
def State.setPendingWrite (w : Option (RegId × Byte)) (s : State) : State := { s with pendingWrite := w }
def State.setBeam (x y : Nat) (s : State) : State := { s with gunX := x, gunY := y }
def State.setFatal (e : Option FatalEvent) (s : State) : State := { s with fatal := e }
def State.setAnswer (a : Answer) (s : State) : State := { s with answer := a }
def State.setHung (b : Bool) (s : State) : State := { s with hung := b }
def State.setInbox (l : List Input) (s : State) : State := { s with inbox := l }
def State.setAtBoundary (b : Bool) (s : State) : State := { s with atBoundary := b }
def State.setStopFlag (b : Bool) (s : State) : State := { s with stopFlag := b }
def State.setRegionDue (b : Bool) (s : State) : State := { s with regionDue := b }

/-- `report(cond, info)`: append to `diag` and continue (60_exceptions.md R152). -/
def State.report (d : DiagEvent) (s : State) : State := { s with diag := s.diag ++ [d] }

/-- `emit(x, y, v)`: append to `video` (43_beam_model.md R140). -/
def State.emit (e : PixelEvent) (s : State) : State := { s with video := s.video ++ [e] }

/-! ## The fatal condition -/

/-- `raise Fatal(cause, info)`: report, then latch (60_exceptions.md R153). It saves and restores nothing and goes
nowhere; abandoning the enclosing operations is theirs to do (`State.orHalted`). There is no return from it and
nothing clears the latch (R154). -/
def raiseFatal (e : FatalEvent) (s : State) : State := (s.report (.fatal e)).setFatal (some e)

/-- The rest of an enclosing operation: it runs only if no fatal condition was raised (60_exceptions.md R153: "no later
line of any of them runs"). -/
def State.orHalted (s : State) (rest : State → State) : State := if s.fatal.isSome then s else rest s

/-! ## When an operation has a step -/

/-- After NEW, on a parameter record that is a configuration of this hardware (40_bus_access.md R90,
00_scope.md R7). -/
def whenConstructed (s : State) (k : State → Result) : Result :=
  if s.constructed = false then .refused .notConstructed
  else if s.params.valid = false then .refused .badParameters
  else k s

/-- And with no fatal condition latched (60_exceptions.md R154). -/
def whenLive (s : State) (k : State → Result) : Result :=
  whenConstructed s fun s => if s.fatal.isSome then .refused .halted else k s

/-- And with no PROCESS running: what every host-visible operation but NEW, and the CPU, needs (20_memory.md R60,
93_implementation_defined.md V7). -/
def whenIdle (s : State) (k : State → Result) : Result :=
  whenLive s fun s => if s.hung then .refused .processRunning else k s

/-- The beam is on the raster (10_state.md R39). -/
def State.onRaster (s : State) : Bool :=
  decide (s.gunX < s.params.lineLength) && decide (s.gunY < s.params.linesPerFrame)

/-- A beam operation: on the raster only (log entry 17). -/
def whenOnRaster (s : State) (k : State → Result) : Result :=
  if s.onRaster then k s else .fault .beamOffRaster

/-! ## The bus region -/

/-- `START_ADDR <= addr and addr < END_ADDR` (40_bus_access.md R91). -/
def inRegion (p : Params) (addr : Nat) : Bool := decide (p.startAddr ≤ addr) && decide (addr < p.endAddr)

/-- LOOKUP in one table (40_bus_access.md R93): `some` is Hit, `none` is Miss. -/
def lookup {α : Type} (p : Params) (table : List (Option α)) (addr : Nat) : Option α :=
  if inRegion p addr then table.getD (addr - p.startAddr) none else none

/-- What LOOKUP returns, as a handler of either table. -/
def lookupHandler (s : State) : Table → Nat → Option Handler
  | .write, addr => (lookup s.params s.writeTable addr).map .write
  | .read, addr => (lookup s.params s.readTable addr).map .read

end Sys2Proof.Machine
end

