-- ==== Sys2Proof/Machine/Operands.lean ====
section
/-! DEFINITION. Bit fields: slices of the playfield mask, bit reversal, the fields of the data bytes, and the extension
of the programmed pattern (00_scope.md R9, R11; 30_encoding.md R74 to R87; 41_register_handlers.md R109, R111). -/

namespace Sys2Proof.Machine

/-- `m[lo + len - 1 : lo] <- v`: replaces the slice, leaves the other bits (00_scope.md R11). -/
def setSlice (m : Mask) (lo len : Nat) (v : BitVec len) : Mask :=
  (m &&& ~~~((BitVec.allOnes len).setWidth 40 <<< lo)) ||| (v.setWidth 40 <<< lo)

/-- `playfield_mask[19:0]`: the programmed pattern (10_state.md R25). -/
def lowHalf (m : Mask) : Pattern := m.extractLsb' 0 20

/-- `playfield_mask[39:20]`: the derived bits (10_state.md R25). -/
def highHalf (m : Mask) : Pattern := m.extractLsb' 20 20

/-- REVn: bit `i` of the result is bit `n-1-i` (41_register_handlers.md R111). -/
def rev {n : Nat} (v : BitVec n) : BitVec n := v.reverse

/-- UPPER(low, mirrored) (41_register_handlers.md R109): the pattern itself, or its three fields reversed each and
placed in reverse order. -/
def upper (low : Pattern) (mirrored : Bool) : Pattern :=
  if mirrored then
    rev (low.extractLsb' 0 4) ++ rev (low.extractLsb' 4 8) ++ rev (low.extractLsb' 12 8)
  else low

/-- PF0's field: the high nibble (30_encoding.md R80). -/
def pf0Field (v : Byte) : BitVec 4 := v.extractLsb' 4 4

/-- PF1's field: the byte, reversed when PF1_REVERSED (30_encoding.md R81). -/
def pf1Field (p : Params) (v : Byte) : BitVec 8 := if p.pf1Reversed then rev v else v

/-- PF2's field: the byte (30_encoding.md R82). -/
def pf2Field (v : Byte) : BitVec 8 := v

end Sys2Proof.Machine
end

