-- ==== Sys2Proof/Machine/Flags.lean ====
section
/-! DEFINITION. The one-bit status fields (10_state.md R37): when a data byte is legal, the mode each byte sets, and the
two tests of the vertical-sync check (43_beam_model.md R138). -/

namespace Sys2Proof.Machine

/-- "legal values are 0 or 2" (30_encoding.md R74). -/
def vsyncLegal (v : Byte) : Bool := v == 0x00#8 || v == 0x02#8

/-- `v = 0x02` (41_register_handlers.md R101). -/
def vsyncModeOf (v : Byte) : Bool := v == 0x02#8

/-- Bits 5:2 must be clear (30_encoding.md R75). -/
def vblankLegal (v : Byte) : Bool := v &&& 0x3C#8 == 0#8

/-- `bool(v[1])` (41_register_handlers.md R102). -/
def vblankModeOf (v : Byte) : Bool := v.getLsbD 1

/-- `bool(v[0])` (41_register_handlers.md R105). -/
def mirroredOf (v : Byte) : Bool := v.getLsbD 0

/-- Sync off on a line of the window `0 < gun_y < VSYNC_LINES` (43_beam_model.md R138). -/
def vsyncMissing (p : Params) (vsyncMode : Bool) (y : Nat) : Bool :=
  !vsyncMode && decide (0 < y) && decide (y < p.vsyncLines)

/-- Sync on past VSYNC_LATE_LIMIT (43_beam_model.md R138). -/
def vsyncTooLong (p : Params) (vsyncMode : Bool) (y : Nat) : Bool :=
  vsyncMode && decide (p.vsyncLateLimit < y)

end Sys2Proof.Machine
end

