-- ==== Sys2Proof/Machine/Beam.lean ====
section
/-! DEFINITION. The chip cycle and its three parts (43_beam_model.md). -/

namespace Sys2Proof.Machine

/-- The position after one advance (R136). -/
def nextBeam (p : Params) (x y : Nat) : Nat × Nat :=
  if x + 1 = p.lineLength then
    if y + 1 = p.linesPerFrame then (0, 0) else (0, y + 1)
  else (x + 1, y)

/-- BEAM_ADVANCE (R136). -/
def beamAdvance (s : State) : State :=
  let pos := nextBeam s.params s.gunX s.gunY
  s.setBeam pos.1 pos.2

/-- VSYNC_CHECK (R138). -/
def vsyncCheck (s : State) : State :=
  if vsyncMissing s.params s.vsyncMode s.gunY then raiseFatal (.vsyncMissing s.gunX s.gunY s.chipCycleNum) s
  else if vsyncTooLong s.params s.vsyncMode s.gunY then
    raiseFatal (.vsyncTooLong s.gunX s.gunY s.chipCycleNum) s
  else s

/-- The playfield cell of a visible position (R141). -/
def cellAt (p : Params) (x : Nat) : Nat := (x - p.hblankWidth) / 4

/-- The pixel of the current position, if it has one (R139). -/
def pixelValue (s : State) : Option PixelValue :=
  if s.vblankMode then some .blank
  else if s.params.hblankWidth ≤ s.gunX then
    if s.playfieldMask.getLsbD (cellAt s.params s.gunX) then some (.color s.playfieldColor)
    else some (.color s.backgroundColor)
  else none

/-- PIXEL_EMIT (R139). -/
def pixelEmit (s : State) : State :=
  match pixelValue s with
  | some v => s.emit { x := s.gunX, y := s.gunY, value := v }
  | none => s

/-- The last two parts of a chip cycle: emit, count (R135). -/
def emitAndCount (s : State) : State := (pixelEmit s).setChipCycleNum (s.chipCycleNum + 1)

/-- CHIP_CYCLE (R135): advance, check, emit, count; a fatal check leaves the last two undone. -/
def chipCycle (s : State) : State := (vsyncCheck (beamAdvance s)).orHalted emitAndCount

/-- One chip cycle of a catch-up loop that cannot end: nothing is reported, no condition is latched, and the pixels go on
for ever (60_exceptions.md R160, 42_cycle_synchronizer.md R124; log entry 12). -/
def hungCycle (s : State) : State := emitAndCount (beamAdvance s)

/-- CHIP_CYCLE by itself (R135). -/
def execChipCycle (s : State) : Result := whenLive s fun s => whenOnRaster s fun s => .next (chipCycle s)

/-- BEAM_ADVANCE by itself (R136). -/
def execBeamAdvance (s : State) : Result := whenLive s fun s => whenOnRaster s fun s => .next (beamAdvance s)

/-- VSYNC_CHECK by itself (R138). -/
def execVsyncCheck (s : State) : Result := whenLive s fun s => whenOnRaster s fun s => .next (vsyncCheck s)

/-- PIXEL_EMIT by itself (R139). -/
def execPixelEmit (s : State) : Result := whenLive s fun s => whenOnRaster s fun s => .next (pixelEmit s)

end Sys2Proof.Machine
end

