-- ==== Sys2Proof/Machine/Bus.lean ====
section
/-! DEFINITION. Construction, the region queries and the two bus transactions, with the nine register rows
(40_bus_access.md, 30_encoding.md R83). -/

namespace Sys2Proof.Machine

/-! ## Construction -/

/-- The chip constructed with parameters `p`: every field of S but cycle_num, both tables, both streams
(R90, 10_state.md R42). The inputs, the stop flag and the boundary are the surroundings'. -/
def construct (p : Params) (s : State) : State :=
  { s with
    params := p
    writeTable := buildWriteTable p
    readTable := buildReadTable p
    constructed := true
    chipCycleNum := p.cycleRatio * s.cycleNum
    vsyncMode := p.init.vsyncMode
    vblankMode := p.init.vblankMode
    playfieldMask := p.init.playfieldMask
    playfieldMirrored := p.init.playfieldMirrored
    playfieldColor := p.init.playfieldColor
    backgroundColor := p.init.backgroundColor
    pendingWrite := none
    gunX := p.init.gunX
    gunY := p.init.gunY
    fatal := none
    video := []
    diag := []
    answer := .chip
    hung := false }

/-- The parameter record with the region bounds that NEW is given (R90). -/
def boundedParams (p : Params) (startAddr endAddr : Nat) : Params :=
  { p with startAddr := startAddr, endAddr := endAddr }

/-- NEW (R90): once, and only on a parameter record that satisfies 00_scope.md R7. -/
def execNew (startAddr endAddr : Nat) (s : State) : Result :=
  if s.constructed then .refused .secondNew
  else if (boundedParams s.params startAddr endAddr).valid then
    .next (construct (boundedParams s.params startAddr endAddr) s)
  else .refused .badParameters

/-! ## Queries -/

/-- CONTAINS (R91), on a chip that is neither halted nor hung (log entry 22). -/
def execContains (addr : Nat) (s : State) : Result :=
  whenIdle s fun s => .next (s.setAnswer (.claimed (inRegion s.params addr)))

/-- The region object bound to this chip (R92). -/
def regionOf (p : Params) : BusRegion where
  startAddr := p.startAddr
  endAddr := p.endAddr
  contains := .contains
  read := .busRead
  write := .busWrite

/-- GET_BUS_REGION (R92): every call returns the one region. When the surroundings may call it is `refusalOf`. -/
def execGetBusRegion (s : State) : Result :=
  whenIdle s fun s => .next (s.setAnswer (.region (regionOf s.params)))

/-- LOOKUP by itself (R93), on a chip that is not halted (log entry 22). -/
def execLookup (table : Table) (addr : Nat) (s : State) : Result :=
  whenLive s fun s => .next (s.setAnswer (((lookupHandler s table addr).map Answer.hit).getD .miss))

/-! ## The two transactions -/

/-- BUS_READ after its guard (R94). -/
def busRead (addr : Nat) (s : State) : State :=
  match lookup s.params s.readTable addr with
  | some h => s.setAnswer (.byte (Config.readHandler h s.chip))
  | none => (s.report (.invalidAddress (.read addr))).setAnswer (.byte 0x00#8)

/-- BUS_WRITE after its guard (R95). -/
def busWrite (addr : Nat) (value : Byte) (s : State) : State :=
  match lookup s.params s.writeTable addr with
  | some r => s.setPendingWrite (some (r, value))
  | none => s.report (.invalidAddress (.write addr value))

/-- BUS_READ (R94). -/
def execBusRead (addr : Nat) (s : State) : Result := whenIdle s fun s => .next (busRead addr s)

/-- BUS_WRITE (R95). -/
def execBusWrite (addr : Nat) (value : Byte) (s : State) : Result :=
  whenIdle s fun s => .next (busWrite addr value s)

/-! ## The register rows: the write transaction to START_ADDR + OFF_r (30_encoding.md R83). The handler runs when
the pair is applied (42_cycle_synchronizer.md R121; log entry 8). -/

/-- The write transaction of a register. -/
def writeRegister (r : RegId) (value : Byte) (s : State) : Result :=
  whenIdle s fun s => .next (busWrite (s.params.addrOf r) value s)

/-- W VSYNC. -/
def execWVsync (value : Byte) (s : State) : Result := writeRegister .vsync value s

/-- W VBLANK. -/
def execWVblank (value : Byte) (s : State) : Result := writeRegister .vblank value s

/-- W WSYNC. -/
def execWWsync (value : Byte) (s : State) : Result := writeRegister .wsync value s

/-- W COLUPF. -/
def execWColupf (value : Byte) (s : State) : Result := writeRegister .colupf value s

/-- W COLUBK. -/
def execWColubk (value : Byte) (s : State) : Result := writeRegister .colubk value s

/-- W CTRLPF. -/
def execWCtrlpf (value : Byte) (s : State) : Result := writeRegister .ctrlpf value s

/-- W PF0. -/
def execWPf0 (value : Byte) (s : State) : Result := writeRegister .pf0 value s

/-- W PF1. -/
def execWPf1 (value : Byte) (s : State) : Result := writeRegister .pf1 value s

/-- W PF2. -/
def execWPf2 (value : Byte) (s : State) : Result := writeRegister .pf2 value s

end Sys2Proof.Machine
end

