-- ==== Sys2Proof/Machine/Registers.lean ====
section
/-! DEFINITION. The nine register handlers, the mirror recomputation and its stand-alone meaning
(41_register_handlers.md, 42_cycle_synchronizer.md R125). -/

namespace Sys2Proof.Machine

/-- MIRROR_RECOMPUTE (R110): replaces bits 39:20. -/
def mirrorRecompute (s : State) : State :=
  s.setPlayfieldMask (setSlice s.playfieldMask 20 20 (upper (lowHalf s.playfieldMask) s.playfieldMirrored))

/-- H_VSYNC (R101). -/
def hVsync (v : Byte) (s : State) : State :=
  if vsyncLegal v then s.setVsyncMode (vsyncModeOf v) else raiseFatal (.invalidRegisterValue .vsync v) s

/-- H_VBLANK (R102). -/
def hVblank (v : Byte) (s : State) : State :=
  if vblankLegal v then s.setVblankMode (vblankModeOf v) else raiseFatal (.invalidRegisterValue .vblank v) s

/-- The counter after a WSYNC stall (42_cycle_synchronizer.md R125). -/
def wsyncTarget (p : Params) (c : Nat) : Nat :=
  c + p.hblankCpuCycles + (p.scanlineCpuCycles - c % p.scanlineCpuCycles)

/-- H_WSYNC (42_cycle_synchronizer.md R125): the byte is ignored. -/
def hWsync (_v : Byte) (s : State) : State := s.setCycleNum (wsyncTarget s.params s.cycleNum)

/-- H_COLUPF (R103). -/
def hColupf (v : Byte) (s : State) : State := s.setPlayfieldColor v

/-- H_COLUBK (R104). -/
def hColubk (v : Byte) (s : State) : State := s.setBackgroundColor v

/-- H_CTRLPF (R105). -/
def hCtrlpf (v : Byte) (s : State) : State := mirrorRecompute (s.setPlayfieldMirrored (mirroredOf v))

/-- H_PF0 (R106). -/
def hPf0 (v : Byte) (s : State) : State :=
  mirrorRecompute (s.setPlayfieldMask (setSlice s.playfieldMask 0 4 (pf0Field v)))

/-- H_PF1 (R107). -/
def hPf1 (v : Byte) (s : State) : State :=
  mirrorRecompute (s.setPlayfieldMask (setSlice s.playfieldMask 4 8 (pf1Field s.params v)))

/-- H_PF2 (R108). -/
def hPf2 (v : Byte) (s : State) : State :=
  mirrorRecompute (s.setPlayfieldMask (setSlice s.playfieldMask 12 8 (pf2Field v)))

/-- `H_r(v)`: the handler of a register (42_cycle_synchronizer.md R121). -/
def applyHandler : RegId → Byte → State → State
  | .vsync => hVsync
  | .vblank => hVblank
  | .wsync => hWsync
  | .colupf => hColupf
  | .colubk => hColubk
  | .ctrlpf => hCtrlpf
  | .pf0 => hPf0
  | .pf1 => hPf1
  | .pf2 => hPf2

/-- MIRROR_RECOMPUTE by itself (R110). -/
def execMirrorRecompute (s : State) : Result := whenLive s fun s => .next (mirrorRecompute s)

end Sys2Proof.Machine
end

