-- ==== Sys2Proof/Machine/Sync.lean ====
section
/-! DEFINITION. The cycle synchronizer: PROCESS and its two steps (42_cycle_synchronizer.md R120 to R124). -/

namespace Sys2Proof.Machine

/-- APPLY_PENDING (R121): the handler first, then the slot is cleared; a fatal handler leaves the pair in the slot. -/
def applyPending (s : State) : State :=
  match s.pendingWrite with
  | some (r, v) => (applyHandler r v s).orHalted (State.setPendingWrite none)
  | none => s

/-- `n` chip cycles, or as many as run before a fatal condition (R122). -/
def runChipCycles : Nat → State → State
  | 0, s => s
  | n + 1, s => (chipCycle s).orHalted (runChipCycles n)

/-- The catch-up target (R122). -/
def State.target (s : State) : Nat := s.params.cycleRatio * s.cycleNum

/-- CATCH_UP (R122). The target is fixed during the loop, so the loop is a count of chip cycles (R123). A target
below the chip count never ends the loop: the operation has not returned, and `step` runs its chip cycles one at a
time, without a condition (R124, 60_exceptions.md R160; log entry 12). -/
def catchUp (s : State) : State :=
  if s.target < s.chipCycleNum then s.setHung true else runChipCycles (s.target - s.chipCycleNum) s

/-- PROCESS after its guards (R120): step 1, then step 2 unless step 1 was fatal. -/
def process (s : State) : State := (applyPending s).orHalted catchUp

/-- APPLY_PENDING by itself (R121). -/
def execApplyPending (s : State) : Result := whenLive s fun s => .next (applyPending s)

/-- CATCH_UP by itself (R122). -/
def execCatchUp (s : State) : Result := whenLive s fun s => whenOnRaster s fun s => .next (catchUp s)

/-- PROCESS (R120). An argument other than the shared counter is refused (R124). -/
def execProcess (count : Nat) (s : State) : Result :=
  whenIdle s fun s =>
    if count = s.cycleNum then whenOnRaster s fun s => .next (process s) else .refused .processArgument

end Sys2Proof.Machine
end

