-- ==== Sys2Proof/Machine/Dispatch.lean ====
section
/-! DEFINITION. `exec`: one arm for each operation of the table. -/

namespace Sys2Proof.Machine

def exec (i : Instr) (s : State) : Host.Outcome State Fault Refusal :=
  match i with
  | .wVsync value => Sys2Proof.Machine.execWVsync value s
  | .wVblank value => Sys2Proof.Machine.execWVblank value s
  | .wWsync value => Sys2Proof.Machine.execWWsync value s
  | .wColupf value => Sys2Proof.Machine.execWColupf value s
  | .wColubk value => Sys2Proof.Machine.execWColubk value s
  | .wCtrlpf value => Sys2Proof.Machine.execWCtrlpf value s
  | .wPf0 value => Sys2Proof.Machine.execWPf0 value s
  | .wPf1 value => Sys2Proof.Machine.execWPf1 value s
  | .wPf2 value => Sys2Proof.Machine.execWPf2 value s
  | .busWrite addr value => Sys2Proof.Machine.execBusWrite addr value s
  | .busRead addr => Sys2Proof.Machine.execBusRead addr s
  | .new startAddr endAddr => Sys2Proof.Machine.execNew startAddr endAddr s
  | .contains addr => Sys2Proof.Machine.execContains addr s
  | .getBusRegion => Sys2Proof.Machine.execGetBusRegion s
  | .process count => Sys2Proof.Machine.execProcess count s
  | .lookup table addr => Sys2Proof.Machine.execLookup table addr s
  | .mirrorRecompute => Sys2Proof.Machine.execMirrorRecompute s
  | .applyPending => Sys2Proof.Machine.execApplyPending s
  | .catchUp => Sys2Proof.Machine.execCatchUp s
  | .chipCycle => Sys2Proof.Machine.execChipCycle s
  | .beamAdvance => Sys2Proof.Machine.execBeamAdvance s
  | .vsyncCheck => Sys2Proof.Machine.execVsyncCheck s
  | .pixelEmit => Sys2Proof.Machine.execPixelEmit s

end Sys2Proof.Machine
end

