-- ==== Sys2Proof/Machine/Loop.lean ====
section
/-! DEFINITION. The surroundings as far as they act on the block: the CPU's advance of the counter, the stop flag, what
they may ask for, the boundary of the driving loop, and a hung PROCESS (60_exceptions.md R160, R170, R171, R173). -/

namespace Sys2Proof.Machine

/-- At a boundary the driving loop has examined the stop flag and leaves (R171). A loop that a fatal condition ended is not
one of these: a run ends in exactly one way. -/
def State.loopLeft (s : State) : Bool := s.stopFlag && s.atBoundary && s.fatal.isNone

/-- `CPU n` (30_encoding.md R84): the CPU advances the shared counter during an instruction. A loop that has left executes
none. -/
def cpuAdvance (n : Nat) (s : State) : Result :=
  if s.loopLeft then .refused .stopped
  else whenIdle s fun s => .next (((s.setCycleNum (s.cycleNum + n)).setAtBoundary false).setRegionDue false)

/-- The controlling thread sets the stop flag; the chip owes nothing (R173). -/
def setStop (s : State) : Result := .next (s.setStopFlag true)

/-- The operations that the start-up code calls, before there is a driving loop (R173, 70_reset_and_hazards.md R182). -/
def byStartup : Instr → Bool
  | .new _ _ => true
  | .getBusRegion => true
  | _ => false

/-- Whether the driving loop stands at a boundary once the operation is under way: NEW and PROCESS put it there,
GET_BUS_REGION comes before the loop, and everything else is part of an instruction, CONTAINS too, which the bus calls at
each access (30_encoding.md R70, 60_exceptions.md R171; log entry 18). -/
def boundaryAfter : Instr → Bool → Bool
  | .new _ _, _ => true
  | .process _, _ => true
  | .getBusRegion, b => b
  | _, _ => false

/-- Whether GET_BUS_REGION is due once the operation is under way: NEW makes it so; GET_BUS_REGION itself and everything
that the emulation thread does end it (R173, 70_reset_and_hazards.md R182; log entry 30). -/
def regionDueAfter : Instr → Bool
  | .new _ _ => true
  | _ => false

/-- The state in which a decoded request runs: the input is taken, the boundary and the start-up are settled. -/
def State.taking (i : Instr) (rest : List Input) (s : State) : State :=
  ((s.setInbox rest).setAtBoundary (boundaryAfter i s.atBoundary)).setRegionDue (regionDueAfter i)

/-- The operations that the surroundings may ask for (30_encoding.md R70, 60_exceptions.md R173). The others are performed
only as parts of these (log entry 14). -/
def hostVisible : Instr → Bool
  | .wVsync _ => true
  | .wVblank _ => true
  | .wWsync _ => true
  | .wColupf _ => true
  | .wColubk _ => true
  | .wCtrlpf _ => true
  | .wPf0 _ => true
  | .wPf1 _ => true
  | .wPf2 _ => true
  | .busWrite _ _ => true
  | .busRead _ => true
  | .new _ _ => true
  | .contains _ => true
  | .getBusRegion => true
  | .process _ => true
  | .lookup _ _ => false
  | .mirrorRecompute => false
  | .applyPending => false
  | .catchUp => false
  | .chipCycle => false
  | .beamAdvance => false
  | .vsyncCheck => false
  | .pixelEmit => false

/-- Why the surroundings may not ask for an operation now, if they may not (R173): nobody asks for an internal one;
GET_BUS_REGION is called once, before the emulation thread starts; and after the stop flag has ended the driving loop (R171)
there is no instruction and no PROCESS any more. The start-up code does not wait for the loop. -/
def refusalOf (s : State) (i : Instr) : Option Refusal :=
  if hostVisible i = false then some .internalOperation
  else if i = .getBusRegion ∧ s.regionDue = false then some .startupOver
  else if s.loopLeft && !byStartup i then some .stopped
  else none

/-- The inputs without the first setting of the stop flag, if there is one. -/
def withoutStop : List Input → Option (List Input)
  | [] => none
  | .stop :: rest => some rest
  | inp :: rest => (withoutStop rest).map (inp :: ·)

/-- A step while PROCESS hangs. The controlling thread can still set the stop flag, which the loop never examines again
(R160, R173); the inputs of the driving loop's thread wait; otherwise the catch-up loop runs its next chip cycle. -/
def hungStep (s : State) : Result :=
  match withoutStop s.inbox with
  | some rest => setStop (s.setInbox rest)
  | none => whenLive s fun s => whenOnRaster s fun s => .next (hungCycle s)

end Sys2Proof.Machine
end

