-- ==== Sys2Proof/Machine/Step.lean ====
section
/-! DEFINITION. One step: the next input is taken and performed (log entry 9). -/

namespace Sys2Proof.Machine

/-- Perform an input that was taken from the head of the inbox. -/
def takeInput (inp : Input) (rest : List Input) (s : State) : Host.Outcome State Fault Refusal :=
  match inp with
  | .cpu n => cpuAdvance n (s.setInbox rest)
  | .stop => setStop (s.setInbox rest)
  | .request r =>
    match decode s.params r with
    | .ok i =>
      match refusalOf s i with
      | some r => .refused r
      | none => exec i (s.taking i rest)
    | .error e => .refused (.undecodable e)

/-- One step. A PROCESS that cannot return goes on (60_exceptions.md R160). With no input nothing moves (10_state.md R36). -/
def step (s : State) : Host.Outcome State Fault Refusal :=
  if s.hung then hungStep s
  else
    match s.inbox with
    | [] => .next s
    | inp :: rest => takeInput inp rest s

/-- `s` with the table word `w` as the next request that `step` takes (log entry 9). -/
def State.withFetchWord (s : State) (nbits w : Nat) : State :=
  { s with inbox := .request (tableRequest nbits w) :: s.inbox }

end Sys2Proof.Machine
end

