-- ==== Sys2Proof/Safety.lean ====
section
/-! DEFINITION. The terms of the claims: when an operation has a step, the invariants of a run, sequences of operations,
and the positions and pixels that a number of chip cycles passes through. -/

namespace Sys2Proof.Machine

/-! ## When an operation has a step -/

/-- NEW has returned, on a configuration of this hardware. -/
abbrev Constructed (s : State) : Prop := s.constructed = true ∧ s.params.valid = true

/-- No fatal condition has occurred. -/
abbrev Live (s : State) : Prop := Constructed s ∧ s.fatal = none

/-- And no PROCESS is running. -/
abbrev Idle (s : State) : Prop := Live s ∧ s.hung = false

/-- The beam is on the raster (10_state.md R39). -/
abbrev OnRaster (s : State) : Prop := s.gunX < s.params.lineLength ∧ s.gunY < s.params.linesPerFrame

/-- The dispatch tables are the ones NEW builds (10_state.md R34). -/
abbrev TablesBuilt (s : State) : Prop :=
  s.writeTable = buildWriteTable s.params ∧ s.readTable = buildReadTable s.params

/-! ## Sequences -/

/-- Operations one after the other, stopping at the first that has no step. -/
def execAll : List Instr → State → Result
  | [], s => .next s
  | i :: is, s =>
    match exec i s with
    | .next t => execAll is t
    | .fault f => .fault f
    | .refused r => .refused r

/-- The write transactions of a list of addresses and values. -/
def writesOf (ws : List (Nat × Byte)) : List Instr := ws.map fun w => .busWrite w.1 w.2

/-- An input that belongs to a CPU instruction: an advance of the counter, a bus access, or the CONTAINS that the bus calls
at an access (20_memory.md R60, 30_encoding.md R70). -/
def inInstruction : Input → Bool
  | .cpu _ => true
  | .request (.bus _ _) => true
  | .request (.call .contains _) => true
  | _ => false

/-! ## Positions and pixels -/

/-- The beam position as one number: `gun_x + LINE_LENGTH * gun_y` (10_state.md R39). -/
def beamIndex (s : State) : Nat := s.gunX + s.params.lineLength * s.gunY

/-- The horizontal coordinate of a position index. -/
def xOf (p : Params) (k : Nat) : Nat := k % p.lineLength

/-- The vertical coordinate of a position index. -/
def yOf (p : Params) (k : Nat) : Nat := k / p.lineLength % p.linesPerFrame

/-- Neither vertical-sync condition holds on a line (43_beam_model.md R138). -/
def lineLegal (p : Params) (vsyncMode : Bool) (y : Nat) : Bool :=
  !vsyncMissing p vsyncMode y && !vsyncTooLong p vsyncMode y

/-- The chip cycles that a catch-up owes (42_cycle_synchronizer.md R122). -/
def cyclesDue (s : State) : Nat := s.target - s.chipCycleNum

/-- The state with the beam at a position index. -/
def State.atIndex (s : State) (k : Nat) : State := s.setBeam (xOf s.params k) (yOf s.params k)

/-- The pixel event of a position index with the registers of `s`, if it has one (43_beam_model.md R139). -/
def pixelAt (s : State) (k : Nat) : Option PixelEvent :=
  (pixelValue (s.atIndex k)).map fun v => { x := xOf s.params k, y := yOf s.params k, value := v }

/-- The events of the `n` positions after the beam's (43_beam_model.md R140). -/
def pixelsAhead (s : State) (n : Nat) : List PixelEvent :=
  (List.range n).filterMap fun k => pixelAt s (beamIndex s + k + 1)

/-- The `n` positions after the beam's are on legal lines. -/
abbrev LinesLegal (s : State) (n : Nat) : Prop :=
  ∀ k, k < n → lineLegal s.params s.vsyncMode (yOf s.params (beamIndex s + k + 1)) = true

/-- The state after `n` chip cycles that raise nothing. -/
def State.ahead (s : State) (n : Nat) : State :=
  { s with
    gunX := xOf s.params (beamIndex s + n)
    gunY := yOf s.params (beamIndex s + n)
    chipCycleNum := s.chipCycleNum + n
    video := s.video ++ pixelsAhead s n }

/-! ## Register values -/

/-- The values a register accepts (60_exceptions.md R156): only VSYNC and VBLANK refuse any. -/
def registerLegal : RegId → Byte → Prop
  | .vsync, v => v = 0x00#8 ∨ v = 0x02#8
  | .vblank, v => v &&& 0x3C#8 = 0#8
  | _, _ => True

/-! ## Invariants -/

/-- The mask invariant (10_state.md R40). -/
abbrev MaskExtended (s : State) : Prop :=
  highHalf s.playfieldMask = upper (lowHalf s.playfieldMask) s.playfieldMirrored

/-- One for the chip cycle that a vertical-sync condition left uncounted (10_state.md R39, 43_beam_model.md R135). -/
def uncounted : Option FatalEvent → Nat
  | some (.vsyncMissing _ _ _) => 1
  | some (.vsyncTooLong _ _ _) => 1
  | _ => 0

/-- The beam-position invariant (10_state.md R39). -/
abbrev BeamTracksCycles (s : State) : Prop :=
  s.params.cycleRatio * s.params.cycleInit ≤ s.chipCycleNum ∧
    beamIndex s =
      (s.chipCycleNum + uncounted s.fatal - s.params.cycleRatio * s.params.cycleInit + s.params.initBeam)
        % s.params.frameLength

/-- The cycle invariant (10_state.md R38) at a boundary of the driving loop. -/
abbrev CycleInvariant (s : State) : Prop :=
  s.fatal = none → s.atBoundary = true → s.pendingWrite = none ∧ s.chipCycleNum = s.target

/-- What holds of every state of a run, whatever the surroundings put into the inbox. -/
abbrev RunInvariant (s : State) : Prop :=
  s.hung = false ∧
    (s.constructed = false → s.cycleNum = s.params.cycleInit) ∧
    (s.constructed = true →
      s.params.valid = true ∧ TablesBuilt s ∧ OnRaster s ∧ BeamTracksCycles s ∧
        s.chipCycleNum ≤ s.target ∧ CycleInvariant s)

end Sys2Proof.Machine
end

