-- ==== Sys2Proof/Certificates/Slice0/Obligations.lean ====
section
/-! DEFINITION. The statements for the provers. Each docstring names the sentence of the spec that it formalises, or says
that it is the model's choice. -/

open Sys2Proof Sys2Proof.Machine

/-! ## Construction -/

/-- NEW(0x0000, 0x0080), taken by `step` as the first input of a process, gives the reset state (70_reset_and_hazards.md,
section 1). That it is taken from the inbox is the model's choice (log entry 9). -/
def Obligations.NewAsFirstInputGivesResetState : Prop :=
  step { State.beforeNew Config.pDefault with inbox := [.request (.call .new [0x0000, 0x0080])] } =
    .next State.reset

/-- The values after construction (10_state.md section 7). All but `chip_cycle_num` are the spec's decision D8
(log entry 3). -/
def Obligations.ResetStateValues : Prop :=
  State.reset.chipCycleNum = State.reset.params.cycleRatio * State.reset.cycleNum ∧
    State.reset.params = Config.pDefault ∧ State.reset.params.valid = true ∧ TablesBuilt State.reset ∧
    State.reset.cycleNum = 0 ∧ State.reset.vsyncMode = false ∧ State.reset.vblankMode = false ∧
    State.reset.playfieldMask = 0 ∧ State.reset.playfieldMirrored = false ∧ State.reset.playfieldColor = 0 ∧
    State.reset.backgroundColor = 0 ∧ State.reset.pendingWrite = none ∧ State.reset.gunX = 0 ∧
    State.reset.gunY = 0 ∧ State.reset.fatal = none ∧ State.reset.video = [] ∧ State.reset.diag = []

/-- NEW completes on every process without a chip whose parameters are valid: both tables are built slot by slot,
`chip_cycle_num` is CYCLE_RATIO * cycle_num, every other field of S has its INIT value, and the CPU's counter is only
read (40_bus_access.md, the rule of NEW; the initial values are decision D8). -/
def Obligations.NewBuildsTablesAndState : Prop :=
  ∀ (s : State) (a b : Nat), s.constructed = false → (boundedParams s.params a b).valid = true →
    ∃ t, exec (.new a b) s = .next t ∧
      t.params = { s.params with startAddr := a, endAddr := b } ∧ t.constructed = true ∧
      t.writeTable.length = b - a ∧ t.readTable.length = b - a ∧
      (∀ r, t.writeTable[s.params.off r]? = some (some r)) ∧
      (∀ k, k < b - a → (∀ r, s.params.off r ≠ k) → t.writeTable[k]? = some none) ∧
      (∀ k, k < b - a → (∀ e ∈ s.params.readHandlers, e.1 ≠ k) → t.readTable[k]? = some none) ∧
      ((s.params.readHandlers.map Prod.fst).Nodup →
        ∀ e ∈ s.params.readHandlers, t.readTable[e.1]? = some (some e.2)) ∧
      t.cycleNum = s.cycleNum ∧ t.chipCycleNum = s.params.cycleRatio * s.cycleNum ∧
      t.vsyncMode = s.params.init.vsyncMode ∧ t.vblankMode = s.params.init.vblankMode ∧
      t.playfieldMask = s.params.init.playfieldMask ∧
      t.playfieldMirrored = s.params.init.playfieldMirrored ∧
      t.playfieldColor = s.params.init.playfieldColor ∧
      t.backgroundColor = s.params.init.backgroundColor ∧ t.pendingWrite = none ∧
      t.gunX = s.params.init.gunX ∧ t.gunY = s.params.init.gunY ∧ t.fatal = none ∧
      t.video = [] ∧ t.diag = [] ∧ t.answer = .chip ∧ t.hung = false ∧
      t.inbox = s.inbox ∧ t.atBoundary = s.atBoundary ∧ t.stopFlag = s.stopFlag ∧ t.regionDue = s.regionDue

/-- A second NEW, and a NEW whose parameters break 00_scope.md section 3, construct nothing (40_bus_access.md, the rule of
NEW, "a second `NEW` ... is refused by a model"; log entry 16). That an INIT with the beam off the raster is such a break
is the model's inference (log entry 28). -/
def Obligations.NewRefusesSecondAndBadParameters : Prop :=
  ∀ (s : State) (a b : Nat),
    (s.constructed = true → exec (.new a b) s = .refused .secondNew) ∧
      (s.constructed = false → (boundedParams s.params a b).valid = false →
        exec (.new a b) s = .refused .badParameters)

/-- No operation but NEW has a step before NEW has returned (93_implementation_defined.md V7; log entry 16). -/
def Obligations.NothingBeforeNew : Prop :=
  ∀ (i : Instr) (s : State), s.constructed = false → (∀ a b, i ≠ .new a b) → exec i s = .refused .notConstructed

/-! ## The region and the two transactions -/

/-- R91: CONTAINS answers `START_ADDR <= addr and addr < END_ADDR`, so START_ADDR is claimed and END_ADDR is not, and it
writes no state. -/
def Obligations.ContainsAnswersHalfOpenRange : Prop :=
  ∀ s : State, Idle s →
    (∀ addr, exec (.contains addr) s =
      .next { s with answer := .claimed (decide (s.params.startAddr ≤ addr ∧ addr < s.params.endAddr)) }) ∧
      exec (.contains s.params.startAddr) s = .next { s with answer := .claimed true } ∧
      exec (.contains s.params.endAddr) s = .next { s with answer := .claimed false }

/-- R92: GET_BUS_REGION hands back the bounds with the chip's own three operations, and writes no state. -/
def Obligations.GetBusRegionReturnsBoundRegion : Prop :=
  ∀ s : State, Idle s →
    exec .getBusRegion s =
      .next { s with
        answer := .region
          { startAddr := s.params.startAddr, endAddr := s.params.endAddr,
            contains := .contains, read := .busRead, write := .busWrite } }

/-- LOOKUP is by exact offset, in either table, with an address outside the region a miss (40_bus_access.md, the rule of
LOOKUP; the miss outside the region is decision D21). The chip is not halted: LOOKUP is refused on a halted one (decision
D17, log entry 22); that it runs by itself, a hanging PROCESS or not, is the model's (log entries 14 and 22). -/
def Obligations.LookupIsByExactOffset : Prop :=
  ∀ s : State, Live s → TablesBuilt s →
    (∀ r, exec (.lookup .write (s.params.startAddr + s.params.off r)) s =
      .next { s with answer := .hit (.write r) }) ∧
    (∀ addr, (∀ r, addr ≠ s.params.startAddr + s.params.off r) →
      exec (.lookup .write addr) s = .next { s with answer := .miss }) ∧
    ((s.params.readHandlers.map Prod.fst).Nodup → ∀ e ∈ s.params.readHandlers,
      exec (.lookup .read (s.params.startAddr + e.1)) s = .next { s with answer := .hit (.read e.2) }) ∧
    (∀ addr, (∀ e ∈ s.params.readHandlers, addr ≠ s.params.startAddr + e.1) →
      exec (.lookup .read addr) s = .next { s with answer := .miss })

/-- Each of the nine register writes completes by putting its register and its byte, unvalidated, into the pending slot,
and does nothing else (40_bus_access.md, the rule of BUS_WRITE; the model's reading of the rows, log entry 8). -/
def Obligations.RegisterWritesGoToThePendingSlot : Prop :=
  ∀ (s : State) (v : Byte), Idle s → TablesBuilt s →
    exec (.wVsync v) s = .next { s with pendingWrite := some (.vsync, v) } ∧
    exec (.wVblank v) s = .next { s with pendingWrite := some (.vblank, v) } ∧
    exec (.wWsync v) s = .next { s with pendingWrite := some (.wsync, v) } ∧
    exec (.wColupf v) s = .next { s with pendingWrite := some (.colupf, v) } ∧
    exec (.wColubk v) s = .next { s with pendingWrite := some (.colubk, v) } ∧
    exec (.wCtrlpf v) s = .next { s with pendingWrite := some (.ctrlpf, v) } ∧
    exec (.wPf0 v) s = .next { s with pendingWrite := some (.pf0, v) } ∧
    exec (.wPf1 v) s = .next { s with pendingWrite := some (.pf1, v) } ∧
    exec (.wPf2 v) s = .next { s with pendingWrite := some (.pf2, v) }

/-- BUS_WRITE completes at every address: at a register's address it is that register's row, at any other it reports
InvalidAddress with the value and sets no pending write (40_bus_access.md, the rule of BUS_WRITE). -/
def Obligations.BusWriteHitsOrReports : Prop :=
  ∀ (s : State) (v : Byte), Idle s → TablesBuilt s →
    (∀ r, exec (.busWrite (s.params.startAddr + s.params.off r) v) s = exec (registerWrite r v) s ∧
      exec (.busWrite (s.params.startAddr + s.params.off r) v) s =
        .next { s with pendingWrite := some (r, v) }) ∧
    (∀ addr, (∀ r, addr ≠ s.params.startAddr + s.params.off r) →
      exec (.busWrite addr v) s = .next { s with diag := s.diag ++ [.invalidAddress (.write addr v)] })

/-- R155: an access without a handler is reported by the access itself, once, every time; the read returns 0, the write
sets no pending write, no field of S changes, nothing becomes fatal; with the default empty read table every BUS_READ
is such an access. -/
def Obligations.InvalidAddressIsReportedAndHarmless : Prop :=
  ∀ s : State, Idle s →
    (∀ addr, lookup s.params s.readTable addr = none →
      ∃ t, exec (.busRead addr) s = .next t ∧ t.chip = s.chip ∧ t.answer = .byte 0x00#8 ∧
        t = { s with diag := s.diag ++ [.invalidAddress (.read addr)], answer := .byte 0x00#8 }) ∧
    (∀ addr v, lookup s.params s.writeTable addr = none →
      ∃ t, exec (.busWrite addr v) s = .next t ∧ t.chip = s.chip ∧
        t = { s with diag := s.diag ++ [.invalidAddress (.write addr v)] }) ∧
    (TablesBuilt s → s.params.readHandlers = [] → ∀ addr, lookup s.params s.readTable addr = none)

/-- A BUS_READ that hits returns what the handler makes of S as it stands, a pending write included, and changes nothing
else (40_bus_access.md, the rule of BUS_READ; 20_memory.md, read after write). The handler's value is free (log
entry 7): this holds for every handler. -/
def Obligations.BusReadHitReturnsHandlerValue : Prop :=
  ∀ (s : State) (addr : Nat) (h : ReadHandlerId), Idle s → lookup s.params s.readTable addr = some h →
    exec (.busRead addr) s = .next { s with answer := .byte (Config.readHandler h s.chip) }

/-- R62: of any sequence of write transactions the last hit is the one left in the slot; earlier hits leave no trace of
any kind, and misses leave the slot alone and are reported in order. -/
def Obligations.OnlyTheLastHittingWriteSurvives : Prop :=
  ∀ (s : State) (ws : List (Nat × Byte)), Idle s →
    ∃ t, execAll (writesOf ws) s = .next t ∧
      t = { s with pendingWrite := t.pendingWrite, diag := t.diag } ∧
      t.diag = s.diag ++
        (ws.filter fun w => (lookup s.params s.writeTable w.1).isNone).map
          (fun w => .invalidAddress (.write w.1 w.2)) ∧
      ((∀ w ∈ ws, lookup s.params s.writeTable w.1 = none) → t.pendingWrite = s.pendingWrite) ∧
      (∀ before w after r, ws = before ++ w :: after → lookup s.params s.writeTable w.1 = some r →
        (∀ x ∈ after, lookup s.params s.writeTable x.1 = none) → t.pendingWrite = some (r, w.2))

/-- R61: a hitting write leaves the register bank alone when issued; the next PROCESS applies it before any chip cycle of
its pass, so that the whole pass runs with the new register state, and the slot is then empty; a PROCESS that returned
before the write was issued left no chip cycle of its instruction to run. -/
def Obligations.WriteTakesEffectAtStartOfNextProcess : Prop :=
  ∀ (s : State) (r : RegId) (v : Byte), Idle s → TablesBuilt s → OnRaster s → registerLegal r v →
    exec (registerWrite r v) s = .next { s with pendingWrite := some (r, v) } ∧
    exec (.process s.cycleNum) { s with pendingWrite := some (r, v) } =
      exec .catchUp { applyHandler r v s with pendingWrite := none } ∧
    (∀ t, exec (.process s.cycleNum) { s with pendingWrite := some (r, v) } = .next t → t.pendingWrite = none) ∧
    ∀ c u, exec (.process c) u = .next s → s.chipCycleNum = s.params.cycleRatio * s.cycleNum

/-! ## The register handlers, as APPLY_PENDING performs them -/

/-- R121: the handler is invoked with the stored value, then the slot is cleared; a fatal handler leaves the pair in the
slot; with nothing pending nothing happens; at most one handler runs in a PROCESS, before any of its chip cycles. -/
def Obligations.ApplyPendingRunsHandlerThenClears : Prop :=
  ∀ s : State, Live s →
    (s.pendingWrite = none → exec .applyPending s = .next s) ∧
    (∀ r v, s.pendingWrite = some (r, v) →
      ((applyHandler r v s).fatal = none →
        exec .applyPending s = .next { applyHandler r v s with pendingWrite := none }) ∧
      ((applyHandler r v s).fatal ≠ none →
        exec .applyPending s = .next (applyHandler r v s) ∧ (applyHandler r v s).pendingWrite = some (r, v))) ∧
    (s.hung = false → OnRaster s → ∃ u, exec .applyPending s = .next u ∧
      (u.fatal = none → exec (.process s.cycleNum) s = exec .catchUp u) ∧
      (u.fatal ≠ none → exec (.process s.cycleNum) s = .next u))

/-- R101: VSYNC takes 0x00 and 0x02 only; 0x02 sets `vsync_mode`, 0x00 clears it; each of the 254 other values is fatal
and changes no register; no window check is made. -/
def Obligations.VsyncRegisterTakesZeroOrTwo : Prop :=
  ∀ (s : State) (v : Byte), Live s → s.pendingWrite = some (.vsync, v) →
    ((v = 0x00#8 ∨ v = 0x02#8) →
      exec .applyPending s = .next { s with vsyncMode := decide (v = 0x02#8), pendingWrite := none }) ∧
    (v ≠ 0x00#8 → v ≠ 0x02#8 →
      exec .applyPending s =
        .next { s with
          fatal := some (.invalidRegisterValue .vsync v)
          diag := s.diag ++ [.fatal (.invalidRegisterValue .vsync v)] })

/-- VBLANK is legal when bits 5 to 2 are clear and then takes `vblank_mode` from bit 1; any other value is fatal
(41_register_handlers.md, the rule of H_VBLANK; decision D13). -/
def Obligations.VblankRegisterTakesBitOne : Prop :=
  ∀ (s : State) (v : Byte), Live s → s.pendingWrite = some (.vblank, v) →
    ((∀ k, 2 ≤ k → k ≤ 5 → v.getLsbD k = false) →
      exec .applyPending s = .next { s with vblankMode := v.getLsbD 1, pendingWrite := none }) ∧
    ((∃ k, 2 ≤ k ∧ k ≤ 5 ∧ v.getLsbD k = true) →
      exec .applyPending s =
        .next { s with
          fatal := some (.invalidRegisterValue .vblank v)
          diag := s.diag ++ [.fatal (.invalidRegisterValue .vblank v)] })

/-- R103 and R104: COLUPF and COLUBK store the raw byte, every value unchanged, and trigger nothing. -/
def Obligations.ColourRegistersStoreTheRawByte : Prop :=
  ∀ (s : State) (v : Byte), Live s →
    (s.pendingWrite = some (.colupf, v) →
      exec .applyPending s = .next { s with playfieldColor := v, pendingWrite := none }) ∧
    (s.pendingWrite = some (.colubk, v) →
      exec .applyPending s = .next { s with backgroundColor := v, pendingWrite := none })

/-- CTRLPF takes `playfield_mirrored` from bit 0 and recomputes the right half: cell `20 + i` shows cell `19 - i` when
mirrored and cell `i` when not; the left half is untouched (41_register_handlers.md, the rule of H_CTRLPF; that bits
7:1 are ignored is decision D12). -/
def Obligations.CtrlpfRegisterSetsMirroringAndExtends : Prop :=
  ∀ (s : State) (v : Byte), Live s → s.pendingWrite = some (.ctrlpf, v) →
    ∃ m : Mask,
      exec .applyPending s =
        .next { s with playfieldMirrored := v.getLsbD 0, playfieldMask := m, pendingWrite := none } ∧
      ∀ i, i < 20 →
        m.getLsbD i = s.playfieldMask.getLsbD i ∧
        m.getLsbD (20 + i) =
          if v.getLsbD 0 then s.playfieldMask.getLsbD (19 - i) else s.playfieldMask.getLsbD i

/-- PF0, PF1 and PF2 replace their 4, 8 and 8 bits of the left half and recompute the right half; the other bits of the
left half are untouched (41_register_handlers.md section 3; the placement of the bits is decision D11). -/
def Obligations.PlayfieldRegistersReplaceTheirFields : Prop :=
  ∀ (s : State) (r : RegId) (v : Byte) (lo len : Nat), Live s → s.pendingWrite = some (r, v) →
    ((r = .pf0 ∧ lo = 0 ∧ len = 4) ∨ (r = .pf1 ∧ lo = 4 ∧ len = 8) ∨ (r = .pf2 ∧ lo = 12 ∧ len = 8)) →
    ∃ m : Mask,
      exec .applyPending s = .next { s with playfieldMask := m, pendingWrite := none } ∧
      (∀ k, k < len → m.getLsbD (lo + k) =
        v.getLsbD (if r = .pf0 then 4 + k
          else if r = .pf1 ∧ s.params.pf1Reversed = true then 7 - k else k)) ∧
      (∀ i, i < 20 → (i < lo ∨ lo + len ≤ i) → m.getLsbD i = s.playfieldMask.getLsbD i) ∧
      (∀ i, i < 20 → m.getLsbD (20 + i) = if s.playfieldMirrored then m.getLsbD (19 - i) else m.getLsbD i)

/-- WSYNC moves the CPU's counter to HBLANK_CPU_CYCLES past the next line boundary, a stall of HBLANK_CPU_CYCLES + 1 to
HBLANK_CPU_CYCLES + SCANLINE_CPU_CYCLES cycles, whatever the byte, and writes nothing else
(42_cycle_synchronizer.md section 2; decisions D4, D5, D23). -/
def Obligations.WsyncStallsToTheNextLine : Prop :=
  ∀ (s : State) (v : Byte), Live s → s.pendingWrite = some (.wsync, v) →
    ∃ c, exec .applyPending s = .next { s with cycleNum := c, pendingWrite := none } ∧
      c = s.params.scanlineCpuCycles * (s.cycleNum / s.params.scanlineCpuCycles + 1) + s.params.hblankCpuCycles ∧
      s.cycleNum + s.params.hblankCpuCycles + 1 ≤ c ∧
      c ≤ s.cycleNum + s.params.hblankCpuCycles + s.params.scanlineCpuCycles

/-- R156: InvalidRegisterValue is raised by the PROCESS that applies the pair, never by the write; an overwritten illegal
value raises nothing; the register is not changed; only VSYNC and VBLANK can raise it. -/
def Obligations.InvalidRegisterValueIsRaisedOnlyWhenApplied : Prop :=
  ∀ s : State, Idle s → OnRaster s → TablesBuilt s →
    (∀ r v, exec (.busWrite (s.params.startAddr + s.params.off r) v) s =
      .next { s with pendingWrite := some (r, v) }) ∧
    (∀ r v r' v', execAll [.busWrite (s.params.startAddr + s.params.off r) v,
        .busWrite (s.params.startAddr + s.params.off r') v'] s = .next { s with pendingWrite := some (r', v') }) ∧
    (∀ r v, s.pendingWrite = some (r, v) → ¬ registerLegal r v →
      (r = .vsync ∨ r = .vblank) ∧
      exec (.process s.cycleNum) s =
        .next { s with
          fatal := some (.invalidRegisterValue r v)
          diag := s.diag ++ [.fatal (.invalidRegisterValue r v)] }) ∧
    (∀ r v t, s.pendingWrite = some (r, v) → registerLegal r v → exec (.process s.cycleNum) s = .next t →
      ∀ r' v', t.fatal ≠ some (.invalidRegisterValue r' v'))

/-! ## The mask -/

/-- R111: bit `i` of REVn(v) is bit `n-1-i` of `v`; reversing twice gives the value back; the spec's samples. -/
def Obligations.BitReversalReversesAndIsAnInvolution : Prop :=
  (∀ (n : Nat) (v : BitVec n),
    (∀ i, i < n → (rev v).getLsbD i = v.getLsbD (n - 1 - i)) ∧ rev (rev v) = v) ∧
    rev 0x01#8 = 0x80#8 ∧ rev 0x35#8 = 0xAC#8 ∧ rev 0xC1#8 = 0x83#8 ∧ rev 0xA5#8 = 0xA5#8 ∧
    rev 0x0F#8 = 0xF0#8 ∧ rev 0xA#4 = 0x5#4 ∧ rev 0x1#4 = 0x8#4 ∧ rev 0x3#4 = 0xC#4

/-- Not mirrored, the pattern is duplicated verbatim; mirrored, the fields of 4, 8 and 8 bits are reversed each and stand
in reverse order (41_register_handlers.md section 4, the rule of UPPER). That this is the reversal of the whole pattern,
bit `i` being bit `19 - i`, is an inference of the spec. -/
def Obligations.UpperExtensionRepeatsOrMirrors : Prop :=
  ∀ low : Pattern,
    upper low false = low ∧
    (upper low true).extractLsb' 0 8 = rev (low.extractLsb' 12 8) ∧
    (upper low true).extractLsb' 8 8 = rev (low.extractLsb' 4 8) ∧
    (upper low true).extractLsb' 16 4 = rev (low.extractLsb' 0 4) ∧
    ∀ i, i < 20 → (upper low true).getLsbD i = low.getLsbD (19 - i)

/-- MIRROR_RECOMPUTE replaces bits 39:20 by the extension of bits 19:0, never OR-ing into them, and leaves bits 19:0 and
everything else alone (41_register_handlers.md section 4; decision D20). -/
def Obligations.MirrorRecomputeReplacesTheUpperBits : Prop :=
  ∀ s : State, Live s → ∃ m : Mask,
    exec .mirrorRecompute s = .next { s with playfieldMask := m } ∧
    ∀ i, i < 20 → m.getLsbD i = s.playfieldMask.getLsbD i ∧
      m.getLsbD (20 + i) =
        if s.playfieldMirrored then s.playfieldMask.getLsbD (19 - i) else s.playfieldMask.getLsbD i

/-- The laws of the recomputation: twice is once; the old upper bits have no influence; switching the mode and back
restores the mask; a pattern that is its own reversal gives one mask in both modes (41_register_handlers.md
section 4, inferences of the spec). -/
def Obligations.MirrorRecomputeLaws : Prop :=
  ∀ s : State,
    mirrorRecompute (mirrorRecompute s) = mirrorRecompute s ∧
    (∀ m, lowHalf m = lowHalf s.playfieldMask →
      mirrorRecompute { s with playfieldMask := m } = mirrorRecompute s) ∧
    (∀ v w : Byte, MaskExtended s → w.getLsbD 0 = s.playfieldMirrored → hCtrlpf w (hCtrlpf v s) = s) ∧
    ((∀ i, i < 20 → s.playfieldMask.getLsbD i = s.playfieldMask.getLsbD (19 - i)) →
      (hCtrlpf 0x00#8 s).playfieldMask = (hCtrlpf 0x01#8 s).playfieldMask)

/-- The mask invariant is kept by every step, and NEW establishes it where INIT has it (10_state.md section 6, an
inference of the spec). -/
def Obligations.EveryStepKeepsTheMaskExtended : Prop :=
  ∀ s t : State, step s = .next t →
    (s.constructed = true → MaskExtended s) →
    highHalf s.params.init.playfieldMask =
      upper (lowHalf s.params.init.playfieldMask) s.params.init.playfieldMirrored →
    (t.constructed = true → MaskExtended t) ∧
      highHalf t.params.init.playfieldMask =
        upper (lowHalf t.params.init.playfieldMask) t.params.init.playfieldMirrored

/-! ## The beam -/

/-- R136: the beam moves one position to the right; at LINE_LENGTH it goes to the start of the next line, and at
LINES_PER_FRAME to line 0; nothing else changes; and no operation that runs no BEAM_ADVANCE moves the beam (NEW, which
places it, apart). -/
def Obligations.BeamAdvanceMovesOnePosition : Prop :=
  ∀ s : State, Live s → OnRaster s →
    (s.gunX + 1 < s.params.lineLength → exec .beamAdvance s = .next { s with gunX := s.gunX + 1 }) ∧
    (s.gunX + 1 = s.params.lineLength → s.gunY + 1 < s.params.linesPerFrame →
      exec .beamAdvance s = .next { s with gunX := 0, gunY := s.gunY + 1 }) ∧
    (s.gunX + 1 = s.params.lineLength → s.gunY + 1 = s.params.linesPerFrame →
      exec .beamAdvance s = .next { s with gunX := 0, gunY := 0 }) ∧
    ∀ i t, exec i s = .next t → i ≠ .beamAdvance → i ≠ .chipCycle → i ≠ .catchUp → (∀ c, i ≠ .process c) →
      (∀ a b, i ≠ .new a b) → t.gunX = s.gunX ∧ t.gunY = s.gunY

/-- VSYNC_CHECK passes a legal line unchanged, raises VsyncMissing on a window line with sync off and VsyncTooLong past
VSYNC_LATE_LIMIT with sync on, with the position and the chip cycle count (43_beam_model.md, the rule of VSYNC_CHECK;
decisions D10, D26). -/
def Obligations.VsyncCheckRaisesExactlyOutsideTheWindowRules : Prop :=
  ∀ s : State, Live s → OnRaster s →
    (s.vsyncMode = false → 0 < s.gunY → s.gunY < s.params.vsyncLines →
      exec .vsyncCheck s =
        .next { s with
          fatal := some (.vsyncMissing s.gunX s.gunY s.chipCycleNum)
          diag := s.diag ++ [.fatal (.vsyncMissing s.gunX s.gunY s.chipCycleNum)] }) ∧
    (s.vsyncMode = true → s.params.vsyncLateLimit < s.gunY →
      exec .vsyncCheck s =
        .next { s with
          fatal := some (.vsyncTooLong s.gunX s.gunY s.chipCycleNum)
          diag := s.diag ++ [.fatal (.vsyncTooLong s.gunX s.gunY s.chipCycleNum)] }) ∧
    ((s.vsyncMode = false → s.gunY = 0 ∨ s.params.vsyncLines ≤ s.gunY) →
      (s.vsyncMode = true → s.gunY ≤ s.params.vsyncLateLimit) → exec .vsyncCheck s = .next s)

/-- PIXEL_EMIT: a blank pixel at every position under vblank; otherwise the cell's colour at a visible position and
nothing in horizontal blank; nothing else changes (43_beam_model.md, the rule of PIXEL_EMIT; decision D15). -/
def Obligations.PixelEmitSamplesTheCurrentRegisters : Prop :=
  ∀ s : State, Live s → OnRaster s →
    (s.vblankMode = true →
      exec .pixelEmit s = .next { s with video := s.video ++ [{ x := s.gunX, y := s.gunY, value := .blank }] }) ∧
    (s.vblankMode = false → s.params.hblankWidth ≤ s.gunX →
      exec .pixelEmit s =
        .next { s with
          video := s.video ++
            [{ x := s.gunX, y := s.gunY,
               value := .color (if s.playfieldMask.getLsbD ((s.gunX - s.params.hblankWidth) / 4) = true
                 then s.playfieldColor else s.backgroundColor) }] }) ∧
    (s.vblankMode = false → s.gunX < s.params.hblankWidth → exec .pixelEmit s = .next s)

/-- `vblank_mode` takes bit 1 of the value that H_VBLANK applies and keeps it under every operation that applies no
VBLANK pair; while it is true every pixel emitted is the blank pixel (10_state.md section 3). That a blank pixel is
emitted at every position is decision D15 (90_conflicts.md C4, log entry 29), and bit 1 rather than the comparison with 2
is decision D13 (90_conflicts.md C5, log entry 26). -/
def Obligations.VblankModeBlanksEveryPixel : Prop :=
  ∀ s : State, Live s → OnRaster s →
    (∀ v t, s.pendingWrite = some (.vblank, v) → exec .applyPending s = .next t → t.fatal = none →
      t.vblankMode = v.getLsbD 1) ∧
    (∀ i t, exec i s = .next t → (∀ v, s.pendingWrite ≠ some (.vblank, v)) → (∀ a b, i ≠ .new a b) →
      t.vblankMode = s.vblankMode) ∧
    (s.vblankMode = true →
      exec .pixelEmit s = .next { s with video := s.video ++ [{ x := s.gunX, y := s.gunY, value := .blank }] } ∧
      ∀ t, exec .catchUp s = .next t → ∃ events, t.video = s.video ++ events ∧ ∀ e ∈ events, e.value = .blank)

/-- Cell `c` covers the four positions from HBLANK_WIDTH + 4c, every visible position lies in one of the 40 cells, and its
pixel is chosen by bit `c` of the mask (43_beam_model.md, the cell mapping, an inference of the spec). -/
def Obligations.EveryVisiblePositionHasItsCell : Prop :=
  ∀ s : State, Live s → OnRaster s → s.vblankMode = false → s.params.hblankWidth ≤ s.gunX →
    ∃ c, c < 40 ∧ s.params.hblankWidth + 4 * c ≤ s.gunX ∧ s.gunX ≤ s.params.hblankWidth + 4 * c + 3 ∧
      exec .pixelEmit s =
        .next { s with
          video := s.video ++
            [{ x := s.gunX, y := s.gunY,
               value := .color (if s.playfieldMask.getLsbD c = true
                 then s.playfieldColor else s.backgroundColor) }] }

/-- A chip cycle completes on every live chip on the raster. Onto a legal line: advance, check, emit, count. Onto an illegal
line the beam has moved, and no pixel is emitted and no cycle counted (43_beam_model.md, the rule of CHIP_CYCLE; decision
D9). -/
def Obligations.ChipCycleAdvancesChecksEmitsCounts : Prop :=
  ∀ s : State, Live s → OnRaster s →
    ∃ u w, exec .beamAdvance s = .next u ∧ exec .pixelEmit u = .next w ∧
    (∃ t, exec .chipCycle s = .next t) ∧
    (lineLegal s.params s.vsyncMode u.gunY = true →
      exec .chipCycle s = .next { w with chipCycleNum := s.chipCycleNum + 1 }) ∧
    (lineLegal s.params s.vsyncMode u.gunY = false →
      ∃ e, (s.vsyncMode = false → e = .vsyncMissing u.gunX u.gunY s.chipCycleNum) ∧
        (s.vsyncMode = true → e = .vsyncTooLong u.gunX u.gunY s.chipCycleNum) ∧
        exec .chipCycle s =
          .next { s with
            gunX := u.gunX
            gunY := u.gunY
            fatal := some e
            diag := s.diag ++ [.fatal e] })

/-- A whole line: LINE_LENGTH chip cycles from the last position of the line before append one event for each visible
position in order, or one blank event for each position under vblank (43_beam_model.md, events per line, an inference
of the spec). -/
def Obligations.WholeLineAppendsItsEventsInOrder : Prop :=
  ∀ s : State, Live s → OnRaster s → s.gunX + 1 = s.params.lineLength →
    lineLegal s.params s.vsyncMode ((s.gunY + 1) % s.params.linesPerFrame) = true →
    execAll (List.replicate s.params.lineLength .chipCycle) s =
      .next { s with
        gunY := (s.gunY + 1) % s.params.linesPerFrame
        chipCycleNum := s.chipCycleNum + s.params.lineLength
        video := s.video ++
          if s.vblankMode = true then
            (List.range s.params.lineLength).map fun x =>
              { x := x, y := (s.gunY + 1) % s.params.linesPerFrame, value := .blank }
          else
            (List.range' s.params.hblankWidth (s.params.lineLength - s.params.hblankWidth)).map fun x =>
              { x := x, y := (s.gunY + 1) % s.params.linesPerFrame,
                value := .color (if s.playfieldMask.getLsbD ((x - s.params.hblankWidth) / 4) = true
                  then s.playfieldColor else s.backgroundColor) } }

/-! ## Catch-up and PROCESS -/

/-- CATCH_UP over legal lines runs exactly the chip cycles due: the count reaches CYCLE_RATIO * cycle_num, the beam moves on
by as many positions, and the events of those positions are appended with the current registers
(42_cycle_synchronizer.md section 1). -/
def Obligations.CatchUpRunsExactlyTheCyclesDue : Prop :=
  ∀ s : State, Live s → OnRaster s → s.chipCycleNum ≤ s.params.cycleRatio * s.cycleNum →
    LinesLegal s (s.params.cycleRatio * s.cycleNum - s.chipCycleNum) →
    exec .catchUp s = .next (s.ahead (s.params.cycleRatio * s.cycleNum - s.chipCycleNum)) ∧
      (s.ahead (s.params.cycleRatio * s.cycleNum - s.chipCycleNum)).chipCycleNum = s.params.cycleRatio * s.cycleNum

/-- CATCH_UP onto a first illegal line completes the chip cycles before it and halts in the one that reaches it: the beam on
the violating position, its pixel not emitted, its cycle not counted (43_beam_model.md, the rules of CHIP_CYCLE and
VSYNC_CHECK; decisions D9, D10). -/
def Obligations.CatchUpHaltsAtTheFirstViolatingCycle : Prop :=
  ∀ (s : State) (n : Nat), Live s → OnRaster s → n < s.params.cycleRatio * s.cycleNum - s.chipCycleNum →
    LinesLegal s n → lineLegal s.params s.vsyncMode (yOf s.params (beamIndex s + n + 1)) = false →
    ∃ e, (s.vsyncMode = false → e = .vsyncMissing (xOf s.params (beamIndex s + n + 1))
        (yOf s.params (beamIndex s + n + 1)) (s.chipCycleNum + n)) ∧
      (s.vsyncMode = true → e = .vsyncTooLong (xOf s.params (beamIndex s + n + 1))
        (yOf s.params (beamIndex s + n + 1)) (s.chipCycleNum + n)) ∧
      exec .catchUp s =
        .next { s with
          gunX := xOf s.params (beamIndex s + n + 1)
          gunY := yOf s.params (beamIndex s + n + 1)
          chipCycleNum := s.chipCycleNum + n
          video := s.video ++ pixelsAhead s n
          fatal := some e
          diag := s.diag ++ [.fatal e] }

/-- PROCESS completes: with a legal pending write or none, a counter that has not gone backwards and legal lines ahead, it
applies the write, runs exactly the chip cycles due (the stall of a WSYNC applied in this call included), and ends with
chip_cycle_num = CYCLE_RATIO * cycle_num and nothing pending (42_cycle_synchronizer.md section 1; decisions D6, D7). -/
def Obligations.ProcessAppliesThenCatchesUp : Prop :=
  ∀ s : State, Idle s → OnRaster s → (∀ r v, s.pendingWrite = some (r, v) → registerLegal r v) →
    s.chipCycleNum ≤ s.params.cycleRatio * (applyPending s).cycleNum →
    LinesLegal (applyPending s) (s.params.cycleRatio * (applyPending s).cycleNum - s.chipCycleNum) →
    exec .applyPending s = .next (applyPending s) ∧
    ∃ t, exec (.process s.cycleNum) s = .next t ∧
      t = (applyPending s).ahead (s.params.cycleRatio * (applyPending s).cycleNum - s.chipCycleNum) ∧
      t.chipCycleNum = t.params.cycleRatio * t.cycleNum ∧ t.pendingWrite = none ∧ t.fatal = none ∧
      t.hung = false

/-- R38: the cycle invariant. PROCESS that returns without a fatal condition leaves chip_cycle_num = CYCLE_RATIO *
cycle_num exactly; so does NEW; and over an instruction (advances of the counter, bus accesses and CONTAINS) the chip count
stays at CYCLE_RATIO times the counter of the previous return, and so at most CYCLE_RATIO times the new one. -/
def Obligations.CycleInvariantHoldsAtReturnAndEntry : Prop :=
  (∀ (c : Nat) (s t : State), exec (.process c) s = .next t → t.fatal = none → t.hung = false →
    t.chipCycleNum = t.params.cycleRatio * t.cycleNum) ∧
  (∀ (a b : Nat) (s t : State), exec (.new a b) s = .next t →
    t.chipCycleNum = t.params.cycleRatio * t.cycleNum) ∧
  (∀ (s u : State) (ins rest : List Input), s.hung = false → s.chipCycleNum = s.params.cycleRatio * s.cycleNum →
    s.inbox = ins ++ rest → (∀ i ∈ ins, inInstruction i = true) →
    Host.Core.run Sys2Proof.core ins.length s = .next u →
    u.chipCycleNum = u.params.cycleRatio * s.cycleNum ∧ u.chipCycleNum ≤ u.params.cycleRatio * u.cycleNum)

/-- After a PROCESS that applied a WSYNC the beam stands at CYCLE_RATIO * HBLANK_CPU_CYCLES, if the counter and the beam were
aligned at construction; that is in horizontal blank if it is below HBLANK_WIDTH, as with the default 22 and not with 23
(42_cycle_synchronizer.md section 2, an inference of the spec). -/
def Obligations.WsyncResumesTheCpuBeforeTheVisibleRegion : Prop :=
  ∀ (s t : State) (v : Byte), RunInvariant s → s.params.cycleInit % s.params.scanlineCpuCycles = 0 →
    s.params.init.gunX = 0 → s.params.cycleRatio * s.params.hblankCpuCycles < s.params.lineLength →
    s.pendingWrite = some (.wsync, v) → exec (.process s.cycleNum) s = .next t → t.fatal = none →
    t.gunX = s.params.cycleRatio * s.params.hblankCpuCycles ∧
      t.gunX = t.params.cycleRatio * t.cycleNum % t.params.lineLength ∧
      (s.params.cycleRatio * s.params.hblankCpuCycles < s.params.hblankWidth → t.gunX < t.params.hblankWidth)

/-- PROCESS with an argument other than the shared counter has no step (42_cycle_synchronizer.md section 1; decision D7;
log entry 16). -/
def Obligations.ProcessRefusesAnotherCounter : Prop :=
  ∀ (s : State) (c : Nat), Idle s → c ≠ s.cycleNum → exec (.process c) s = .refused .processArgument

/-- A catch-up whose target lies below the chip count does not return: PROCESS is left running, every further step is one
more chip cycle without a condition, and of the inputs only the setting of the stop flag is still taken
(42_cycle_synchronizer.md section 1 and 60_exceptions.md section 2, the hang; decision D19). That those chip cycles make
no vertical-sync check is the model's reading (log entry 12). -/
def Obligations.BackwardCounterHangsWithoutACondition : Prop :=
  (∀ s u : State, Idle s → OnRaster s → exec .applyPending s = .next u → u.fatal = none →
    u.params.cycleRatio * u.cycleNum < u.chipCycleNum →
    exec (.process s.cycleNum) s = .next { u with hung := true }) ∧
  (∀ s : State, Live s → OnRaster s → s.hung = true → Input.stop ∉ s.inbox →
    ∃ u w, exec .beamAdvance s = .next u ∧ exec .pixelEmit u = .next w ∧
      step s = .next { w with chipCycleNum := s.chipCycleNum + 1 } ∧
      w.hung = true ∧ w.inbox = s.inbox ∧ w.cycleNum = s.cycleNum ∧ w.fatal = none ∧ w.diag = s.diag) ∧
  (∀ (s : State) (before rest : List Input), s.hung = true → s.inbox = before ++ .stop :: rest →
    Input.stop ∉ before → step s = .next { s with inbox := before ++ rest, stopFlag := true }) ∧
  (∀ s : State, Live s → s.hung = true → ∀ addr v c,
    exec (.busRead addr) s = .refused .processRunning ∧ exec (.busWrite addr v) s = .refused .processRunning ∧
      exec (.process c) s = .refused .processRunning ∧ exec (.contains addr) s = .refused .processRunning ∧
      exec .getBusRegion s = .refused .processRunning)

/-- A hung PROCESS emits pixels for ever: any number of steps from it are as many chip cycles, with the events of their
positions; nothing is reported, no condition is latched, and no input of the driving loop is taken (60_exceptions.md
section 2, the hang; decision D19; the reading of log entry 12). -/
def Obligations.HungProcessEmitsPixelsForever : Prop :=
  ∀ (s : State) (n : Nat), Live s → OnRaster s → s.hung = true → Input.stop ∉ s.inbox →
    Host.Core.run Sys2Proof.core n s = .next (s.ahead n) ∧
      (s.ahead n).fatal = none ∧ (s.ahead n).diag = s.diag ∧ (s.ahead n).hung = true ∧ (s.ahead n).inbox = s.inbox

/-! ## Fatal conditions -/

/-- Once a fatal condition is latched no operation has a step: NEW is refused as a second NEW, every other operation, the
pure queries among them, as halted (60_exceptions.md, after a fatal condition; decision D17 and
93_implementation_defined.md U5; the names are log entries 13 and 16; that the queries are among them is log entry 22). -/
def Obligations.HaltedChipRefusesEveryOperation : Prop :=
  ∀ (s : State) (e : FatalEvent), Constructed s → s.fatal = some e →
    (∀ a b, exec (.new a b) s = .refused .secondNew) ∧
    ∀ i : Instr, (∀ a b, i ≠ .new a b) → exec i s = .refused .halted

/-- The latch is never cleared, and beside it nothing of S and no stream ever changes again (10_state.md, the latch, and its
section on lifetime; decision D17). -/
def Obligations.FatalLatchIsNeverCleared : Prop :=
  ∀ (s t : State) (e : FatalEvent), s.constructed = true → s.fatal = some e → step s = .next t →
    t.fatal = some e ∧ t.chip = s.chip ∧ t.video = s.video ∧ t.diag = s.diag

/-- A step that raises a fatal condition reports exactly that condition, once, and it is never the reserved one
(60_exceptions.md sections 1 and 2; decisions D16, D17, D20). -/
def Obligations.FatalConditionIsReportedOnce : Prop :=
  ∀ (s t : State) (e : FatalEvent), s.fatal = none → step s = .next t → t.fatal = some e →
    t.diag = s.diag ++ [.fatal e] ∧ e ≠ .playfieldAccumulation

/-- A beam operation in a state whose beam is off the raster stops with a fault (the model's choice, log entry 17; 10_state.md
section 6 excludes such a state). -/
def Obligations.OffRasterBeamOperationsFault : Prop :=
  ∀ s : State, Live s → ¬ OnRaster s →
    exec .chipCycle s = .fault .beamOffRaster ∧ exec .beamAdvance s = .fault .beamOffRaster ∧
    exec .vsyncCheck s = .fault .beamOffRaster ∧ exec .pixelEmit s = .fault .beamOffRaster ∧
    exec .catchUp s = .fault .beamOffRaster ∧
    (s.hung = false → exec (.process s.cycleNum) s = .fault .beamOffRaster)

/-! ## Whole-machine rules -/

/-- The run invariant holds after construction and before it (10_state.md sections 6 and 7). -/
def Obligations.ResetStateMeetsTheRunInvariant : Prop :=
  RunInvariant State.reset ∧ ∀ p, RunInvariant (State.beforeNew p)

/-- Every step keeps the run invariant: the parameters stay valid, the tables stay as built, the beam stays on the raster
and at the position that the chip count gives, the chip count never passes CYCLE_RATIO * cycle_num, no PROCESS hangs,
and at every boundary of the driving loop nothing is pending and the cycle invariant holds (10_state.md section 6,
60_exceptions.md section 5, inferences of the spec among them). -/
def Obligations.EveryStepKeepsTheRunInvariant : Prop :=
  ∀ s t : State, RunInvariant s → step s = .next t → RunInvariant t

/-- A run that the stop flag ended, whether or not a further input of the driving loop is refused, is not halted and has
nothing pending and the cycle invariant (60_exceptions.md section 5; decision D25; the boundary is log entry 18). -/
def Obligations.StoppedRunEndsClean : Prop :=
  ∀ s : State, RunInvariant s → s.constructed = true →
    (step s = .refused .stopped ∨ (s.stopFlag = true ∧ s.atBoundary = true ∧ s.fatal = none)) →
    s.stopFlag = true ∧ s.fatal = none ∧ s.hung = false ∧ s.pendingWrite = none ∧
      s.chipCycleNum = s.params.cycleRatio * s.cycleNum

/-- The driving loop's next instruction either begins or meets exactly one of the three ends of a run: stopped by the flag
at a boundary, halted by a fatal condition, whatever the flag is, or hung, where it waits for ever (60_exceptions.md
section 5; decision D25; the boundary is log entry 18, the inbox log entry 9). -/
def Obligations.DrivingLoopEndsInOneOfThreeWays : Prop :=
  ∀ (s : State) (n : Nat) (rest : List Input), Constructed s → OnRaster s → s.inbox = .cpu n :: rest →
    (s.hung = false → s.fatal = none → ¬ (s.stopFlag = true ∧ s.atBoundary = true) →
      step s = .next { s with
        inbox := rest, cycleNum := s.cycleNum + n, atBoundary := false, regionDue := false }) ∧
    (s.hung = false → s.fatal = none → s.stopFlag = true → s.atBoundary = true → step s = .refused .stopped) ∧
    (s.hung = false → ∀ e, s.fatal = some e → step s = .refused .halted) ∧
    (s.hung = true → s.fatal = none →
      ∃ t rest', step s = .next t ∧ t.hung = true ∧ t.fatal = none ∧ t.cycleNum = s.cycleNum ∧
        t.pendingWrite = s.pendingWrite ∧ t.inbox = .cpu n :: rest')

/-- Nothing ever decreases the shared counter, and in a chip operation only an applied WSYNC moves it (10_state.md section 2;
decision D7). -/
def Obligations.CounterNeverDecreasesAndOnlyWsyncMovesIt : Prop :=
  (∀ s t : State, step s = .next t → s.cycleNum ≤ t.cycleNum) ∧
  (∀ (i : Instr) (s t : State), exec i s = .next t → t.cycleNum ≠ s.cycleNum →
    (∃ v, s.pendingWrite = some (.wsync, v)) ∧ (i = .applyPending ∨ ∃ c, i = .process c))

/-- Parameters and dispatch tables never change after construction, the chip stays constructed, and a start-up that is over
stays over (10_state.md, the dispatch tables and lifetime; 20_memory.md, section 3; 70_reset_and_hazards.md section 2;
the start-up's flag is log entry 30). -/
def Obligations.ConfigurationIsFixedAfterNew : Prop :=
  ∀ s t : State, s.constructed = true → step s = .next t →
    t.constructed = true ∧ t.params = s.params ∧ t.writeTable = s.writeTable ∧ t.readTable = s.readTable ∧
      (s.regionDue = false → t.regionDue = false)

/-- The two output streams are append-only (10_state.md section 4; decisions D15, D16). -/
def Obligations.StreamsAreAppendOnly : Prop :=
  ∀ s t : State, s.constructed = true → step s = .next t → s.video <+: t.video ∧ s.diag <+: t.diag

/-- Only chip cycles move the beam and the chip count: no bus access, register write, query or handler does (10_state.md
section 5, an inference of the spec). BEAM_ADVANCE by itself is the model's own addition (log entry 14). -/
def Obligations.OnlyChipCyclesMoveTheBeam : Prop :=
  ∀ (i : Instr) (s t : State), exec i s = .next t → (∀ a b, i ≠ .new a b) → (∀ c, i ≠ .process c) →
    i ≠ .catchUp → i ≠ .chipCycle →
    t.chipCycleNum = s.chipCycleNum ∧ (i ≠ .beamAdvance → t.gunX = s.gunX ∧ t.gunY = s.gunY)

/-- A register is changed only by its own handler, when APPLY_PENDING or PROCESS applies its own pair, and mask bits 39:20
only by the mirror recomputation, which CTRLPF, PF0, PF1 and PF2 call (10_state.md section 3, inferences of the spec
among them). MIRROR_RECOMPUTE by itself is the model's own addition (log entry 14). -/
def Obligations.RegistersChangeOnlyThroughTheirOwnHandler : Prop :=
  ∀ (i : Instr) (s t : State), exec i s = .next t → (∀ a b, i ≠ .new a b) →
    ∀ applies : Prop, (applies ↔ i = .applyPending ∨ ∃ c, i = .process c) →
    ((¬ applies ∨ ∀ v, s.pendingWrite ≠ some (.vsync, v)) → t.vsyncMode = s.vsyncMode) ∧
    ((¬ applies ∨ ∀ v, s.pendingWrite ≠ some (.vblank, v)) → t.vblankMode = s.vblankMode) ∧
    ((¬ applies ∨ ∀ v, s.pendingWrite ≠ some (.colupf, v)) → t.playfieldColor = s.playfieldColor) ∧
    ((¬ applies ∨ ∀ v, s.pendingWrite ≠ some (.colubk, v)) → t.backgroundColor = s.backgroundColor) ∧
    ((¬ applies ∨ ∀ v, s.pendingWrite ≠ some (.ctrlpf, v)) → t.playfieldMirrored = s.playfieldMirrored) ∧
    ((¬ applies ∨ ∀ r v, s.pendingWrite = some (r, v) → r ≠ .pf0 ∧ r ≠ .pf1 ∧ r ≠ .pf2) →
      lowHalf t.playfieldMask = lowHalf s.playfieldMask) ∧
    (i ≠ .mirrorRecompute →
      (¬ applies ∨ ∀ r v, s.pendingWrite = some (r, v) → r ≠ .ctrlpf ∧ r ≠ .pf0 ∧ r ≠ .pf1 ∧ r ≠ .pf2) →
      highHalf t.playfieldMask = highHalf s.playfieldMask)

/-! ## Steps, decoding and encoding -/

/-- A step whose next input is a request that decodes to a host-visible operation runs that operation, in the state with
the input taken, the boundary and the start-up settled; a request for an internal operation has no step, and
GET_BUS_REGION has one only while it is due, once, before the emulation thread starts. After the stop flag has ended the
driving loop the operations of its thread have none; the start-up code's have; and inside an instruction, CONTAINS
included, the loop is at no boundary, so the flag cancels nothing there (30_encoding.md section 1, 60_exceptions.md
section 5, 70_reset_and_hazards.md section 2; the interface is the model's, log entries 9, 14, 18 and 30). -/
def Obligations.StepRunsTheDecodedOperation : Prop :=
  ∀ (s : State) (r : Request) (i : Instr) (rest : List Input), s.hung = false →
    s.inbox = .request r :: rest → decode s.params r = .ok i →
    (hostVisible i = true → (i = .getBusRegion → s.regionDue = true) → (s.loopLeft = true → byStartup i = true) →
      step s = exec i { s with
        inbox := rest, atBoundary := boundaryAfter i s.atBoundary, regionDue := regionDueAfter i }) ∧
    (i = .getBusRegion → s.regionDue = false → step s = .refused .startupOver) ∧
    (hostVisible i = true → byStartup i = false → s.loopLeft = true → step s = .refused .stopped) ∧
    (hostVisible i = false → step s = .refused .internalOperation) ∧
    (∀ t, step s = .next t → s.constructed = true →
      t.inbox = rest ∧ t.atBoundary = boundaryAfter i s.atBoundary ∧ t.stopFlag = s.stopFlag ∧ t.regionDue = false ∧
        (byStartup i = false → (∀ c, i ≠ .process c) → t.loopLeft = false))

/-- A step whose next input is the CPU's advance adds it to the shared counter, unless the stop flag has ended the driving
loop; one that sets the stop flag sets it, at any time; with no input nothing moves (60_exceptions.md section 5; the
inbox is log entry 9). -/
def Obligations.StepTakesTheSurroundingsInputs : Prop :=
  ∀ (s : State) (rest : List Input), s.hung = false →
    (∀ n, s.inbox = .cpu n :: rest → Live s → s.loopLeft = false →
      step s = .next { s with
        inbox := rest, cycleNum := s.cycleNum + n, atBoundary := false, regionDue := false }) ∧
    (s.inbox = .stop :: rest → step s = .next { s with inbox := rest, stopFlag := true }) ∧
    (s.inbox = [] → step s = .next s)

/-- Words of the operation table, with the value above the 16 address bits, decode to their rows (30_encoding.md section 3;
the offsets are the spec's from general knowledge, log entry 2; the word's layout is log entry 10). -/
def Obligations.TableWordsDecodeToTheirRows : Prop :=
  decodeTableWord 16 0x0000 = some (.wVsync 0x00#8) ∧ decodeTableWord 24 0x020000 = some (.wVsync 0x02#8) ∧
    decodeTableWord 24 0x420001 = some (.wVblank 0x42#8) ∧ decodeTableWord 16 0x0002 = some (.wWsync 0x00#8) ∧
    decodeTableWord 24 0x1E0008 = some (.wColupf 0x1E#8) ∧ decodeTableWord 24 0x840009 = some (.wColubk 0x84#8) ∧
    decodeTableWord 24 0x01000A = some (.wCtrlpf 0x01#8) ∧ decodeTableWord 24 0x10000D = some (.wPf0 0x10#8) ∧
    decodeTableWord 24 0x35000E = some (.wPf1 0x35#8) ∧ decodeTableWord 24 0xC1000F = some (.wPf2 0xC1#8) ∧
    decodeTableWord 24 0x550003 = some (.busWrite 0x0003 0x55#8) ∧ decodeTableWord 25 0x1000000 = none

/-- Decoding an encoded well-formed operation gives it back, for all 23 operations, every operand and every valid
parameter record (30_encoding.md sections 1 and 3; the layout of the requests is log entry 10). -/
def Obligations.DecodeOfEncodeIsTheOperation : Prop :=
  ∀ (p : Params) (i : Instr), p.valid = true → wellFormed p i = true → decode p (encode p i) = .ok i

/-- Every request that decodes gives a well-formed operation and is that operation's encoding: no two requests mean the
same, and nothing ill-formed is decoded (30_encoding.md sections 1 and 3; log entry 10). -/
def Obligations.EncodeOfDecodeIsTheRequest : Prop :=
  ∀ (p : Params) (r : Request) (i : Instr), decode p r = .ok i → wellFormed p i = true ∧ encode p i = r
end

