-- ==== Sys2Proof/Laws/Decode.lean ====
section
/-! SUPPORT. The dispatch tables, and the fields of a bus word (20_memory.md R53, 30_encoding.md R71, R83). -/

namespace Sys2Proof

open Machine

/-! ## The constraints of 00_scope.md R7, one by one -/

section
variable {p : Params} (h : p.valid = true)
include h

theorem valid_timing : 1 ≤ p.cycleRatio ∧ 1 ≤ p.scanlineCpuCycles ∧
    p.lineLength = p.cycleRatio * p.scanlineCpuCycles ∧ p.hblankWidth < p.lineLength ∧
    p.lineLength - p.hblankWidth ≤ 160 ∧ 1 ≤ p.vsyncLines ∧ p.vsyncLines - 1 ≤ p.vsyncLateLimit ∧
    p.vsyncLateLimit < p.linesPerFrame := by
  simp only [Params.valid, Params.timingValid, Bool.and_eq_true, decide_eq_true_eq] at h
  tauto

theorem valid_region : p.startAddr < p.endAddr ∧ p.endAddr ≤ 2 ^ p.addrBits := by
  simp only [Params.valid, Params.addressValid, Bool.and_eq_true, decide_eq_true_eq] at h
  tauto

theorem valid_nodup : (RegId.all.map p.off).Nodup := by
  simp only [Params.valid, Params.addressValid, Bool.and_eq_true, decide_eq_true_eq] at h
  tauto

omit h in
theorem mem_all (r : RegId) : r ∈ RegId.all := by cases r <;> decide

theorem valid_off (r : RegId) : p.off r < p.regionSize := by
  simp only [Params.valid, Params.addressValid, Bool.and_eq_true, List.all_eq_true, decide_eq_true_eq] at h
  exact h.1.2.1.2 r (by cases r <;> decide)

theorem valid_readHandlers : ∀ e ∈ p.readHandlers, e.1 < p.regionSize := by
  simp only [Params.valid, Params.addressValid, Bool.and_eq_true, List.all_eq_true, decide_eq_true_eq] at h
  exact h.1.2.2

theorem valid_init : p.init.gunX < p.lineLength ∧ p.init.gunY < p.linesPerFrame := by
  simp only [Params.valid, Params.initValid, Bool.and_eq_true, decide_eq_true_eq] at h
  exact h.2

theorem off_injective {r r' : RegId} (e : p.off r = p.off r') : r = r' :=
  List.inj_on_of_nodup_map (valid_nodup h) (by cases r <;> decide) (by cases r' <;> decide) e

/-- A register's address is a bus address of the region (30_encoding.md R83). -/
theorem addrOf_inRegion (r : RegId) : inRegion p (p.addrOf r) = true := by
  have h1 := valid_off h r
  have h2 := valid_region h
  simp only [Params.regionSize] at h1
  rw [inRegion, Bool.and_eq_true, decide_eq_true_eq, decide_eq_true_eq, Params.addrOf]
  omega

theorem addrOf_lt (r : RegId) : p.addrOf r < 2 ^ p.addrBits := by
  have := valid_off h r
  have := valid_region h
  simp only [Params.addrOf, Params.regionSize] at *
  omega

/-- A register is found at its own address (30_encoding.md R83). -/
theorem registerAt_addrOf (r : RegId) : registerAt p (p.addrOf r) = some r := by
  have hf : ∀ r', (p.off r' == p.addrOf r - p.startAddr) = decide (r' = r) := by
    intro r'
    by_cases e : r' = r
    · subst e; simp [Params.addrOf]
    · simp only [Params.addrOf, Nat.add_sub_cancel_left, e, decide_false, beq_eq_false_iff_ne]
      exact fun h' => e (off_injective h h')
  simp only [registerAt, Params.addrOf, Nat.le_add_right, if_true]
  simp only [Params.addrOf] at hf
  simp only [hf]
  cases r <;> decide

omit h in
/-- What is found at an address is the register of that address. -/
theorem registerAt_some {addr : Nat} {r : RegId} (e : registerAt p addr = some r) : addr = p.addrOf r := by
  simp only [registerAt] at e
  split at e
  · have := List.find?_some e
    simp only [beq_iff_eq] at this
    simp only [Params.addrOf, this]
    omega
  · cases e

omit h in
theorem registerAt_none {addr : Nat} : registerAt p addr = none ↔ ∀ r, addr ≠ p.addrOf r := by
  constructor
  · intro e r hr
    subst hr
    simp only [registerAt, Params.addrOf, Nat.le_add_right, if_true, Nat.add_sub_cancel_left,
      List.find?_eq_none, beq_iff_eq] at e
    exact e r (by cases r <;> decide) rfl
  · intro hne
    cases e : registerAt p addr with
    | none => rfl
    | some r => exact absurd (registerAt_some e) (hne r)

end

/-! ## Tables -/

section
variable {α β : Type} (key : β → Nat) (val : β → α)

theorem length_fill (l : List β) (t : List (Option α)) :
    (l.foldl (fun t b => t.set (key b) (some (val b))) t).length = t.length := by
  induction l generalizing t with
  | nil => rfl
  | cons b l ih => simp [ih]

theorem getD_fill_of_notMem (l : List β) (t : List (Option α)) (k : Nat) (hk : ∀ b ∈ l, key b ≠ k) :
    (l.foldl (fun t b => t.set (key b) (some (val b))) t).getD k none = t.getD k none := by
  induction l generalizing t with
  | nil => rfl
  | cons b l ih =>
    rw [List.foldl_cons, ih _ fun c hc => hk c (List.mem_cons_of_mem _ hc)]
    simp [List.getD_eq_getElem?_getD, hk b List.mem_cons_self]

theorem getD_fill_of_mem (l : List β) (t : List (Option α)) (b : β) (hb : b ∈ l)
    (hn : (l.map key).Nodup) (hlen : key b < t.length) :
    (l.foldl (fun t b => t.set (key b) (some (val b))) t).getD (key b) none = some (val b) := by
  induction l generalizing t with
  | nil => cases hb
  | cons c l ih =>
    rw [List.map_cons, List.nodup_cons] at hn
    rw [List.foldl_cons]
    rcases List.mem_cons.mp hb with rfl | hl
    · rw [getD_fill_of_notMem key val l _ _ fun d hd e => hn.1 (List.mem_map.mpr ⟨d, hd, e⟩)]
      simp [List.getD_eq_getElem?_getD, hlen]
    · exact ih _ hl hn.2 (by simpa using hlen)

end

@[simp] theorem length_buildWriteTable (p : Params) : (buildWriteTable p).length = p.regionSize := by
  simp only [buildWriteTable]
  exact (length_fill p.off id _ _).trans List.length_replicate

@[simp] theorem length_buildReadTable (p : Params) : (buildReadTable p).length = p.regionSize := by
  simp only [buildReadTable]
  exact (length_fill (fun e : Nat × ReadHandlerId => e.1) (fun e => e.2) _ _).trans List.length_replicate

/-- The slot of each register's offset holds it (20_memory.md R53). -/
theorem buildWriteTable_off {p : Params} (h : p.valid = true) (r : RegId) :
    (buildWriteTable p).getD (p.off r) none = some r :=
  getD_fill_of_mem p.off id RegId.all _ r (mem_all r) (valid_nodup h) (by simpa using valid_off h r)

/-- Every other slot holds nothing (20_memory.md R53). -/
theorem buildWriteTable_other {p : Params} {k : Nat} (hk : ∀ r, p.off r ≠ k) :
    (buildWriteTable p).getD k none = none := by
  have := getD_fill_of_notMem p.off id RegId.all (List.replicate p.regionSize none) k fun r _ => hk r
  simp only [buildWriteTable]
  exact this.trans (by simp [List.getD_eq_getElem?_getD, List.getElem?_replicate]; split <;> rfl)

/-- With no read handler every slot of RT holds nothing (20_memory.md R54). -/
theorem buildReadTable_empty {p : Params} (h : p.readHandlers = []) (k : Nat) :
    (buildReadTable p).getD k none = none := by
  simp [buildReadTable, h, List.getD_eq_getElem?_getD, List.getElem?_replicate]
  split <;> rfl

/-- LOOKUP in WT is `decode_write` of 30_encoding.md R83. -/
theorem lookup_buildWriteTable {p : Params} (h : p.valid = true) (addr : Nat) :
    lookup p (buildWriteTable p) addr = registerAt p addr := by
  cases e : registerAt p addr with
  | some r =>
    obtain rfl := registerAt_some e
    rw [lookup, addrOf_inRegion h, if_pos rfl, Params.addrOf, Nat.add_sub_cancel_left, buildWriteTable_off h]
  | none =>
    rw [registerAt_none] at e
    rw [lookup]
    split
    · rename_i hr
      refine buildWriteTable_other fun r hk => e r ?_
      simp only [inRegion, Bool.and_eq_true, decide_eq_true_eq] at hr
      simp only [Params.addrOf]
      omega
    · rfl

theorem lookup_buildReadTable_empty {p : Params} (h : p.readHandlers = []) (addr : Nat) :
    lookup p (buildReadTable p) addr = none := by
  rw [lookup, buildReadTable_empty h, ite_self]

/-! ## Bus words -/

theorem writeWord_lt {p : Params} {addr : Nat} (ha : addr < 2 ^ p.addrBits) (v : Byte) :
    writeWord p addr v < 2 ^ p.addrBits * 256 := by
  have : v.toNat ≤ 255 := by have := v.isLt; omega
  calc writeWord p addr v < 2 ^ p.addrBits + 2 ^ p.addrBits * v.toNat := Nat.add_lt_add_right ha _
    _ = 2 ^ p.addrBits * (v.toNat + 1) := by ring
    _ ≤ 2 ^ p.addrBits * 256 := Nat.mul_le_mul_left _ (by omega)

theorem writeWord_mod {p : Params} {addr : Nat} (ha : addr < 2 ^ p.addrBits) (v : Byte) :
    writeWord p addr v % 2 ^ p.addrBits = addr := by
  rw [writeWord, Nat.add_mul_mod_self_left, Nat.mod_eq_of_lt ha]

theorem writeWord_div {p : Params} {addr : Nat} (ha : addr < 2 ^ p.addrBits) (v : Byte) :
    BitVec.ofNat 8 (writeWord p addr v / 2 ^ p.addrBits) = v := by
  rw [writeWord, Nat.add_mul_div_left _ _ (Nat.two_pow_pos _), Nat.div_eq_of_lt ha, Nat.zero_add,
    BitVec.ofNat_toNat, BitVec.setWidth_eq]

/-- A write transaction decodes to what stands at its address. -/
theorem decode_writeWord {p : Params} {addr : Nat} (ha : addr < 2 ^ p.addrBits) (v : Byte) :
    decode p (.bus .write (writeWord p addr v)) = .ok (decodeWrite p addr v) := by
  simp only [decode, decodeBus, writeWord_lt ha, if_true, writeWord_mod ha, writeWord_div ha]

end Sys2Proof
end

