-- ==== Sys2Proof/Laws/State.lean ====
section
/-! SUPPORT. Every field after every update of Machine/Ops.lean. -/

namespace Sys2Proof.Machine
namespace State


section
variable (s : State) (n : Nat)

@[simp] theorem setCycleNum_params : (s.setCycleNum n).params = s.params := rfl
@[simp] theorem setCycleNum_writeTable : (s.setCycleNum n).writeTable = s.writeTable := rfl
@[simp] theorem setCycleNum_readTable : (s.setCycleNum n).readTable = s.readTable := rfl
@[simp] theorem setCycleNum_constructed : (s.setCycleNum n).constructed = s.constructed := rfl
@[simp] theorem setCycleNum_cycleNum : (s.setCycleNum n).cycleNum = n := rfl
@[simp] theorem setCycleNum_chipCycleNum : (s.setCycleNum n).chipCycleNum = s.chipCycleNum := rfl
@[simp] theorem setCycleNum_vsyncMode : (s.setCycleNum n).vsyncMode = s.vsyncMode := rfl
@[simp] theorem setCycleNum_vblankMode : (s.setCycleNum n).vblankMode = s.vblankMode := rfl
@[simp] theorem setCycleNum_playfieldMask : (s.setCycleNum n).playfieldMask = s.playfieldMask := rfl
@[simp] theorem setCycleNum_playfieldMirrored : (s.setCycleNum n).playfieldMirrored = s.playfieldMirrored := rfl
@[simp] theorem setCycleNum_playfieldColor : (s.setCycleNum n).playfieldColor = s.playfieldColor := rfl
@[simp] theorem setCycleNum_backgroundColor : (s.setCycleNum n).backgroundColor = s.backgroundColor := rfl
@[simp] theorem setCycleNum_pendingWrite : (s.setCycleNum n).pendingWrite = s.pendingWrite := rfl
@[simp] theorem setCycleNum_gunX : (s.setCycleNum n).gunX = s.gunX := rfl
@[simp] theorem setCycleNum_gunY : (s.setCycleNum n).gunY = s.gunY := rfl
@[simp] theorem setCycleNum_fatal : (s.setCycleNum n).fatal = s.fatal := rfl
@[simp] theorem setCycleNum_video : (s.setCycleNum n).video = s.video := rfl
@[simp] theorem setCycleNum_diag : (s.setCycleNum n).diag = s.diag := rfl
@[simp] theorem setCycleNum_answer : (s.setCycleNum n).answer = s.answer := rfl
@[simp] theorem setCycleNum_hung : (s.setCycleNum n).hung = s.hung := rfl
@[simp] theorem setCycleNum_inbox : (s.setCycleNum n).inbox = s.inbox := rfl
@[simp] theorem setCycleNum_atBoundary : (s.setCycleNum n).atBoundary = s.atBoundary := rfl
@[simp] theorem setCycleNum_stopFlag : (s.setCycleNum n).stopFlag = s.stopFlag := rfl
@[simp] theorem setCycleNum_regionDue : (s.setCycleNum n).regionDue = s.regionDue := rfl
end

section
variable (s : State) (n : Nat)

@[simp] theorem setChipCycleNum_params : (s.setChipCycleNum n).params = s.params := rfl
@[simp] theorem setChipCycleNum_writeTable : (s.setChipCycleNum n).writeTable = s.writeTable := rfl
@[simp] theorem setChipCycleNum_readTable : (s.setChipCycleNum n).readTable = s.readTable := rfl
@[simp] theorem setChipCycleNum_constructed : (s.setChipCycleNum n).constructed = s.constructed := rfl
@[simp] theorem setChipCycleNum_cycleNum : (s.setChipCycleNum n).cycleNum = s.cycleNum := rfl
@[simp] theorem setChipCycleNum_chipCycleNum : (s.setChipCycleNum n).chipCycleNum = n := rfl
@[simp] theorem setChipCycleNum_vsyncMode : (s.setChipCycleNum n).vsyncMode = s.vsyncMode := rfl
@[simp] theorem setChipCycleNum_vblankMode : (s.setChipCycleNum n).vblankMode = s.vblankMode := rfl
@[simp] theorem setChipCycleNum_playfieldMask : (s.setChipCycleNum n).playfieldMask = s.playfieldMask := rfl
@[simp] theorem setChipCycleNum_playfieldMirrored : (s.setChipCycleNum n).playfieldMirrored = s.playfieldMirrored := rfl
@[simp] theorem setChipCycleNum_playfieldColor : (s.setChipCycleNum n).playfieldColor = s.playfieldColor := rfl
@[simp] theorem setChipCycleNum_backgroundColor : (s.setChipCycleNum n).backgroundColor = s.backgroundColor := rfl
@[simp] theorem setChipCycleNum_pendingWrite : (s.setChipCycleNum n).pendingWrite = s.pendingWrite := rfl
@[simp] theorem setChipCycleNum_gunX : (s.setChipCycleNum n).gunX = s.gunX := rfl
@[simp] theorem setChipCycleNum_gunY : (s.setChipCycleNum n).gunY = s.gunY := rfl
@[simp] theorem setChipCycleNum_fatal : (s.setChipCycleNum n).fatal = s.fatal := rfl
@[simp] theorem setChipCycleNum_video : (s.setChipCycleNum n).video = s.video := rfl
@[simp] theorem setChipCycleNum_diag : (s.setChipCycleNum n).diag = s.diag := rfl
@[simp] theorem setChipCycleNum_answer : (s.setChipCycleNum n).answer = s.answer := rfl
@[simp] theorem setChipCycleNum_hung : (s.setChipCycleNum n).hung = s.hung := rfl
@[simp] theorem setChipCycleNum_inbox : (s.setChipCycleNum n).inbox = s.inbox := rfl
@[simp] theorem setChipCycleNum_atBoundary : (s.setChipCycleNum n).atBoundary = s.atBoundary := rfl
@[simp] theorem setChipCycleNum_stopFlag : (s.setChipCycleNum n).stopFlag = s.stopFlag := rfl
@[simp] theorem setChipCycleNum_regionDue : (s.setChipCycleNum n).regionDue = s.regionDue := rfl
end

section
variable (s : State) (b : Bool)

@[simp] theorem setVsyncMode_params : (s.setVsyncMode b).params = s.params := rfl
@[simp] theorem setVsyncMode_writeTable : (s.setVsyncMode b).writeTable = s.writeTable := rfl
@[simp] theorem setVsyncMode_readTable : (s.setVsyncMode b).readTable = s.readTable := rfl
@[simp] theorem setVsyncMode_constructed : (s.setVsyncMode b).constructed = s.constructed := rfl
@[simp] theorem setVsyncMode_cycleNum : (s.setVsyncMode b).cycleNum = s.cycleNum := rfl
@[simp] theorem setVsyncMode_chipCycleNum : (s.setVsyncMode b).chipCycleNum = s.chipCycleNum := rfl
@[simp] theorem setVsyncMode_vsyncMode : (s.setVsyncMode b).vsyncMode = b := rfl
@[simp] theorem setVsyncMode_vblankMode : (s.setVsyncMode b).vblankMode = s.vblankMode := rfl
@[simp] theorem setVsyncMode_playfieldMask : (s.setVsyncMode b).playfieldMask = s.playfieldMask := rfl
@[simp] theorem setVsyncMode_playfieldMirrored : (s.setVsyncMode b).playfieldMirrored = s.playfieldMirrored := rfl
@[simp] theorem setVsyncMode_playfieldColor : (s.setVsyncMode b).playfieldColor = s.playfieldColor := rfl
@[simp] theorem setVsyncMode_backgroundColor : (s.setVsyncMode b).backgroundColor = s.backgroundColor := rfl
@[simp] theorem setVsyncMode_pendingWrite : (s.setVsyncMode b).pendingWrite = s.pendingWrite := rfl
@[simp] theorem setVsyncMode_gunX : (s.setVsyncMode b).gunX = s.gunX := rfl
@[simp] theorem setVsyncMode_gunY : (s.setVsyncMode b).gunY = s.gunY := rfl
@[simp] theorem setVsyncMode_fatal : (s.setVsyncMode b).fatal = s.fatal := rfl
@[simp] theorem setVsyncMode_video : (s.setVsyncMode b).video = s.video := rfl
@[simp] theorem setVsyncMode_diag : (s.setVsyncMode b).diag = s.diag := rfl
@[simp] theorem setVsyncMode_answer : (s.setVsyncMode b).answer = s.answer := rfl
@[simp] theorem setVsyncMode_hung : (s.setVsyncMode b).hung = s.hung := rfl
@[simp] theorem setVsyncMode_inbox : (s.setVsyncMode b).inbox = s.inbox := rfl
@[simp] theorem setVsyncMode_atBoundary : (s.setVsyncMode b).atBoundary = s.atBoundary := rfl
@[simp] theorem setVsyncMode_stopFlag : (s.setVsyncMode b).stopFlag = s.stopFlag := rfl
@[simp] theorem setVsyncMode_regionDue : (s.setVsyncMode b).regionDue = s.regionDue := rfl
end

section
variable (s : State) (b : Bool)

@[simp] theorem setVblankMode_params : (s.setVblankMode b).params = s.params := rfl
@[simp] theorem setVblankMode_writeTable : (s.setVblankMode b).writeTable = s.writeTable := rfl
@[simp] theorem setVblankMode_readTable : (s.setVblankMode b).readTable = s.readTable := rfl
@[simp] theorem setVblankMode_constructed : (s.setVblankMode b).constructed = s.constructed := rfl
@[simp] theorem setVblankMode_cycleNum : (s.setVblankMode b).cycleNum = s.cycleNum := rfl
@[simp] theorem setVblankMode_chipCycleNum : (s.setVblankMode b).chipCycleNum = s.chipCycleNum := rfl
@[simp] theorem setVblankMode_vsyncMode : (s.setVblankMode b).vsyncMode = s.vsyncMode := rfl
@[simp] theorem setVblankMode_vblankMode : (s.setVblankMode b).vblankMode = b := rfl
@[simp] theorem setVblankMode_playfieldMask : (s.setVblankMode b).playfieldMask = s.playfieldMask := rfl
@[simp] theorem setVblankMode_playfieldMirrored : (s.setVblankMode b).playfieldMirrored = s.playfieldMirrored := rfl
@[simp] theorem setVblankMode_playfieldColor : (s.setVblankMode b).playfieldColor = s.playfieldColor := rfl
@[simp] theorem setVblankMode_backgroundColor : (s.setVblankMode b).backgroundColor = s.backgroundColor := rfl
@[simp] theorem setVblankMode_pendingWrite : (s.setVblankMode b).pendingWrite = s.pendingWrite := rfl
@[simp] theorem setVblankMode_gunX : (s.setVblankMode b).gunX = s.gunX := rfl
@[simp] theorem setVblankMode_gunY : (s.setVblankMode b).gunY = s.gunY := rfl
@[simp] theorem setVblankMode_fatal : (s.setVblankMode b).fatal = s.fatal := rfl
@[simp] theorem setVblankMode_video : (s.setVblankMode b).video = s.video := rfl
@[simp] theorem setVblankMode_diag : (s.setVblankMode b).diag = s.diag := rfl
@[simp] theorem setVblankMode_answer : (s.setVblankMode b).answer = s.answer := rfl
@[simp] theorem setVblankMode_hung : (s.setVblankMode b).hung = s.hung := rfl
@[simp] theorem setVblankMode_inbox : (s.setVblankMode b).inbox = s.inbox := rfl
@[simp] theorem setVblankMode_atBoundary : (s.setVblankMode b).atBoundary = s.atBoundary := rfl
@[simp] theorem setVblankMode_stopFlag : (s.setVblankMode b).stopFlag = s.stopFlag := rfl
@[simp] theorem setVblankMode_regionDue : (s.setVblankMode b).regionDue = s.regionDue := rfl
end

section
variable (s : State) (m : Mask)

@[simp] theorem setPlayfieldMask_params : (s.setPlayfieldMask m).params = s.params := rfl
@[simp] theorem setPlayfieldMask_writeTable : (s.setPlayfieldMask m).writeTable = s.writeTable := rfl
@[simp] theorem setPlayfieldMask_readTable : (s.setPlayfieldMask m).readTable = s.readTable := rfl
@[simp] theorem setPlayfieldMask_constructed : (s.setPlayfieldMask m).constructed = s.constructed := rfl
@[simp] theorem setPlayfieldMask_cycleNum : (s.setPlayfieldMask m).cycleNum = s.cycleNum := rfl
@[simp] theorem setPlayfieldMask_chipCycleNum : (s.setPlayfieldMask m).chipCycleNum = s.chipCycleNum := rfl
@[simp] theorem setPlayfieldMask_vsyncMode : (s.setPlayfieldMask m).vsyncMode = s.vsyncMode := rfl
@[simp] theorem setPlayfieldMask_vblankMode : (s.setPlayfieldMask m).vblankMode = s.vblankMode := rfl
@[simp] theorem setPlayfieldMask_playfieldMask : (s.setPlayfieldMask m).playfieldMask = m := rfl
@[simp] theorem setPlayfieldMask_playfieldMirrored : (s.setPlayfieldMask m).playfieldMirrored = s.playfieldMirrored := rfl
@[simp] theorem setPlayfieldMask_playfieldColor : (s.setPlayfieldMask m).playfieldColor = s.playfieldColor := rfl
@[simp] theorem setPlayfieldMask_backgroundColor : (s.setPlayfieldMask m).backgroundColor = s.backgroundColor := rfl
@[simp] theorem setPlayfieldMask_pendingWrite : (s.setPlayfieldMask m).pendingWrite = s.pendingWrite := rfl
@[simp] theorem setPlayfieldMask_gunX : (s.setPlayfieldMask m).gunX = s.gunX := rfl
@[simp] theorem setPlayfieldMask_gunY : (s.setPlayfieldMask m).gunY = s.gunY := rfl
@[simp] theorem setPlayfieldMask_fatal : (s.setPlayfieldMask m).fatal = s.fatal := rfl
@[simp] theorem setPlayfieldMask_video : (s.setPlayfieldMask m).video = s.video := rfl
@[simp] theorem setPlayfieldMask_diag : (s.setPlayfieldMask m).diag = s.diag := rfl
@[simp] theorem setPlayfieldMask_answer : (s.setPlayfieldMask m).answer = s.answer := rfl
@[simp] theorem setPlayfieldMask_hung : (s.setPlayfieldMask m).hung = s.hung := rfl
@[simp] theorem setPlayfieldMask_inbox : (s.setPlayfieldMask m).inbox = s.inbox := rfl
@[simp] theorem setPlayfieldMask_atBoundary : (s.setPlayfieldMask m).atBoundary = s.atBoundary := rfl
@[simp] theorem setPlayfieldMask_stopFlag : (s.setPlayfieldMask m).stopFlag = s.stopFlag := rfl
@[simp] theorem setPlayfieldMask_regionDue : (s.setPlayfieldMask m).regionDue = s.regionDue := rfl
end

section
variable (s : State) (b : Bool)

@[simp] theorem setPlayfieldMirrored_params : (s.setPlayfieldMirrored b).params = s.params := rfl
@[simp] theorem setPlayfieldMirrored_writeTable : (s.setPlayfieldMirrored b).writeTable = s.writeTable := rfl
@[simp] theorem setPlayfieldMirrored_readTable : (s.setPlayfieldMirrored b).readTable = s.readTable := rfl
@[simp] theorem setPlayfieldMirrored_constructed : (s.setPlayfieldMirrored b).constructed = s.constructed := rfl
@[simp] theorem setPlayfieldMirrored_cycleNum : (s.setPlayfieldMirrored b).cycleNum = s.cycleNum := rfl
@[simp] theorem setPlayfieldMirrored_chipCycleNum : (s.setPlayfieldMirrored b).chipCycleNum = s.chipCycleNum := rfl
@[simp] theorem setPlayfieldMirrored_vsyncMode : (s.setPlayfieldMirrored b).vsyncMode = s.vsyncMode := rfl
@[simp] theorem setPlayfieldMirrored_vblankMode : (s.setPlayfieldMirrored b).vblankMode = s.vblankMode := rfl
@[simp] theorem setPlayfieldMirrored_playfieldMask : (s.setPlayfieldMirrored b).playfieldMask = s.playfieldMask := rfl
@[simp] theorem setPlayfieldMirrored_playfieldMirrored : (s.setPlayfieldMirrored b).playfieldMirrored = b := rfl
@[simp] theorem setPlayfieldMirrored_playfieldColor : (s.setPlayfieldMirrored b).playfieldColor = s.playfieldColor := rfl
@[simp] theorem setPlayfieldMirrored_backgroundColor : (s.setPlayfieldMirrored b).backgroundColor = s.backgroundColor := rfl
@[simp] theorem setPlayfieldMirrored_pendingWrite : (s.setPlayfieldMirrored b).pendingWrite = s.pendingWrite := rfl
@[simp] theorem setPlayfieldMirrored_gunX : (s.setPlayfieldMirrored b).gunX = s.gunX := rfl
@[simp] theorem setPlayfieldMirrored_gunY : (s.setPlayfieldMirrored b).gunY = s.gunY := rfl
@[simp] theorem setPlayfieldMirrored_fatal : (s.setPlayfieldMirrored b).fatal = s.fatal := rfl
@[simp] theorem setPlayfieldMirrored_video : (s.setPlayfieldMirrored b).video = s.video := rfl
@[simp] theorem setPlayfieldMirrored_diag : (s.setPlayfieldMirrored b).diag = s.diag := rfl
@[simp] theorem setPlayfieldMirrored_answer : (s.setPlayfieldMirrored b).answer = s.answer := rfl
@[simp] theorem setPlayfieldMirrored_hung : (s.setPlayfieldMirrored b).hung = s.hung := rfl
@[simp] theorem setPlayfieldMirrored_inbox : (s.setPlayfieldMirrored b).inbox = s.inbox := rfl
@[simp] theorem setPlayfieldMirrored_atBoundary : (s.setPlayfieldMirrored b).atBoundary = s.atBoundary := rfl
@[simp] theorem setPlayfieldMirrored_stopFlag : (s.setPlayfieldMirrored b).stopFlag = s.stopFlag := rfl
@[simp] theorem setPlayfieldMirrored_regionDue : (s.setPlayfieldMirrored b).regionDue = s.regionDue := rfl
end

section
variable (s : State) (v : Byte)

@[simp] theorem setPlayfieldColor_params : (s.setPlayfieldColor v).params = s.params := rfl
@[simp] theorem setPlayfieldColor_writeTable : (s.setPlayfieldColor v).writeTable = s.writeTable := rfl
@[simp] theorem setPlayfieldColor_readTable : (s.setPlayfieldColor v).readTable = s.readTable := rfl
@[simp] theorem setPlayfieldColor_constructed : (s.setPlayfieldColor v).constructed = s.constructed := rfl
@[simp] theorem setPlayfieldColor_cycleNum : (s.setPlayfieldColor v).cycleNum = s.cycleNum := rfl
@[simp] theorem setPlayfieldColor_chipCycleNum : (s.setPlayfieldColor v).chipCycleNum = s.chipCycleNum := rfl
@[simp] theorem setPlayfieldColor_vsyncMode : (s.setPlayfieldColor v).vsyncMode = s.vsyncMode := rfl
@[simp] theorem setPlayfieldColor_vblankMode : (s.setPlayfieldColor v).vblankMode = s.vblankMode := rfl
@[simp] theorem setPlayfieldColor_playfieldMask : (s.setPlayfieldColor v).playfieldMask = s.playfieldMask := rfl
@[simp] theorem setPlayfieldColor_playfieldMirrored : (s.setPlayfieldColor v).playfieldMirrored = s.playfieldMirrored := rfl
@[simp] theorem setPlayfieldColor_playfieldColor : (s.setPlayfieldColor v).playfieldColor = v := rfl
@[simp] theorem setPlayfieldColor_backgroundColor : (s.setPlayfieldColor v).backgroundColor = s.backgroundColor := rfl
@[simp] theorem setPlayfieldColor_pendingWrite : (s.setPlayfieldColor v).pendingWrite = s.pendingWrite := rfl
@[simp] theorem setPlayfieldColor_gunX : (s.setPlayfieldColor v).gunX = s.gunX := rfl
@[simp] theorem setPlayfieldColor_gunY : (s.setPlayfieldColor v).gunY = s.gunY := rfl
@[simp] theorem setPlayfieldColor_fatal : (s.setPlayfieldColor v).fatal = s.fatal := rfl
@[simp] theorem setPlayfieldColor_video : (s.setPlayfieldColor v).video = s.video := rfl
@[simp] theorem setPlayfieldColor_diag : (s.setPlayfieldColor v).diag = s.diag := rfl
@[simp] theorem setPlayfieldColor_answer : (s.setPlayfieldColor v).answer = s.answer := rfl
@[simp] theorem setPlayfieldColor_hung : (s.setPlayfieldColor v).hung = s.hung := rfl
@[simp] theorem setPlayfieldColor_inbox : (s.setPlayfieldColor v).inbox = s.inbox := rfl
@[simp] theorem setPlayfieldColor_atBoundary : (s.setPlayfieldColor v).atBoundary = s.atBoundary := rfl
@[simp] theorem setPlayfieldColor_stopFlag : (s.setPlayfieldColor v).stopFlag = s.stopFlag := rfl
@[simp] theorem setPlayfieldColor_regionDue : (s.setPlayfieldColor v).regionDue = s.regionDue := rfl
end

section
variable (s : State) (v : Byte)

@[simp] theorem setBackgroundColor_params : (s.setBackgroundColor v).params = s.params := rfl
@[simp] theorem setBackgroundColor_writeTable : (s.setBackgroundColor v).writeTable = s.writeTable := rfl
@[simp] theorem setBackgroundColor_readTable : (s.setBackgroundColor v).readTable = s.readTable := rfl
@[simp] theorem setBackgroundColor_constructed : (s.setBackgroundColor v).constructed = s.constructed := rfl
@[simp] theorem setBackgroundColor_cycleNum : (s.setBackgroundColor v).cycleNum = s.cycleNum := rfl
@[simp] theorem setBackgroundColor_chipCycleNum : (s.setBackgroundColor v).chipCycleNum = s.chipCycleNum := rfl
@[simp] theorem setBackgroundColor_vsyncMode : (s.setBackgroundColor v).vsyncMode = s.vsyncMode := rfl
@[simp] theorem setBackgroundColor_vblankMode : (s.setBackgroundColor v).vblankMode = s.vblankMode := rfl
@[simp] theorem setBackgroundColor_playfieldMask : (s.setBackgroundColor v).playfieldMask = s.playfieldMask := rfl
@[simp] theorem setBackgroundColor_playfieldMirrored : (s.setBackgroundColor v).playfieldMirrored = s.playfieldMirrored := rfl
@[simp] theorem setBackgroundColor_playfieldColor : (s.setBackgroundColor v).playfieldColor = s.playfieldColor := rfl
@[simp] theorem setBackgroundColor_backgroundColor : (s.setBackgroundColor v).backgroundColor = v := rfl
@[simp] theorem setBackgroundColor_pendingWrite : (s.setBackgroundColor v).pendingWrite = s.pendingWrite := rfl
@[simp] theorem setBackgroundColor_gunX : (s.setBackgroundColor v).gunX = s.gunX := rfl
@[simp] theorem setBackgroundColor_gunY : (s.setBackgroundColor v).gunY = s.gunY := rfl
@[simp] theorem setBackgroundColor_fatal : (s.setBackgroundColor v).fatal = s.fatal := rfl
@[simp] theorem setBackgroundColor_video : (s.setBackgroundColor v).video = s.video := rfl
@[simp] theorem setBackgroundColor_diag : (s.setBackgroundColor v).diag = s.diag := rfl
@[simp] theorem setBackgroundColor_answer : (s.setBackgroundColor v).answer = s.answer := rfl
@[simp] theorem setBackgroundColor_hung : (s.setBackgroundColor v).hung = s.hung := rfl
@[simp] theorem setBackgroundColor_inbox : (s.setBackgroundColor v).inbox = s.inbox := rfl
@[simp] theorem setBackgroundColor_atBoundary : (s.setBackgroundColor v).atBoundary = s.atBoundary := rfl
@[simp] theorem setBackgroundColor_stopFlag : (s.setBackgroundColor v).stopFlag = s.stopFlag := rfl
@[simp] theorem setBackgroundColor_regionDue : (s.setBackgroundColor v).regionDue = s.regionDue := rfl
end

section
variable (s : State) (w : Option (RegId × Byte))

@[simp] theorem setPendingWrite_params : (s.setPendingWrite w).params = s.params := rfl
@[simp] theorem setPendingWrite_writeTable : (s.setPendingWrite w).writeTable = s.writeTable := rfl
@[simp] theorem setPendingWrite_readTable : (s.setPendingWrite w).readTable = s.readTable := rfl
@[simp] theorem setPendingWrite_constructed : (s.setPendingWrite w).constructed = s.constructed := rfl
@[simp] theorem setPendingWrite_cycleNum : (s.setPendingWrite w).cycleNum = s.cycleNum := rfl
@[simp] theorem setPendingWrite_chipCycleNum : (s.setPendingWrite w).chipCycleNum = s.chipCycleNum := rfl
@[simp] theorem setPendingWrite_vsyncMode : (s.setPendingWrite w).vsyncMode = s.vsyncMode := rfl
@[simp] theorem setPendingWrite_vblankMode : (s.setPendingWrite w).vblankMode = s.vblankMode := rfl
@[simp] theorem setPendingWrite_playfieldMask : (s.setPendingWrite w).playfieldMask = s.playfieldMask := rfl
@[simp] theorem setPendingWrite_playfieldMirrored : (s.setPendingWrite w).playfieldMirrored = s.playfieldMirrored := rfl
@[simp] theorem setPendingWrite_playfieldColor : (s.setPendingWrite w).playfieldColor = s.playfieldColor := rfl
@[simp] theorem setPendingWrite_backgroundColor : (s.setPendingWrite w).backgroundColor = s.backgroundColor := rfl
@[simp] theorem setPendingWrite_pendingWrite : (s.setPendingWrite w).pendingWrite = w := rfl
@[simp] theorem setPendingWrite_gunX : (s.setPendingWrite w).gunX = s.gunX := rfl
@[simp] theorem setPendingWrite_gunY : (s.setPendingWrite w).gunY = s.gunY := rfl
@[simp] theorem setPendingWrite_fatal : (s.setPendingWrite w).fatal = s.fatal := rfl
@[simp] theorem setPendingWrite_video : (s.setPendingWrite w).video = s.video := rfl
@[simp] theorem setPendingWrite_diag : (s.setPendingWrite w).diag = s.diag := rfl
@[simp] theorem setPendingWrite_answer : (s.setPendingWrite w).answer = s.answer := rfl
@[simp] theorem setPendingWrite_hung : (s.setPendingWrite w).hung = s.hung := rfl
@[simp] theorem setPendingWrite_inbox : (s.setPendingWrite w).inbox = s.inbox := rfl
@[simp] theorem setPendingWrite_atBoundary : (s.setPendingWrite w).atBoundary = s.atBoundary := rfl
@[simp] theorem setPendingWrite_stopFlag : (s.setPendingWrite w).stopFlag = s.stopFlag := rfl
@[simp] theorem setPendingWrite_regionDue : (s.setPendingWrite w).regionDue = s.regionDue := rfl
end

section
variable (s : State) (x y : Nat)

@[simp] theorem setBeam_params : (s.setBeam x y).params = s.params := rfl
@[simp] theorem setBeam_writeTable : (s.setBeam x y).writeTable = s.writeTable := rfl
@[simp] theorem setBeam_readTable : (s.setBeam x y).readTable = s.readTable := rfl
@[simp] theorem setBeam_constructed : (s.setBeam x y).constructed = s.constructed := rfl
@[simp] theorem setBeam_cycleNum : (s.setBeam x y).cycleNum = s.cycleNum := rfl
@[simp] theorem setBeam_chipCycleNum : (s.setBeam x y).chipCycleNum = s.chipCycleNum := rfl
@[simp] theorem setBeam_vsyncMode : (s.setBeam x y).vsyncMode = s.vsyncMode := rfl
@[simp] theorem setBeam_vblankMode : (s.setBeam x y).vblankMode = s.vblankMode := rfl
@[simp] theorem setBeam_playfieldMask : (s.setBeam x y).playfieldMask = s.playfieldMask := rfl
@[simp] theorem setBeam_playfieldMirrored : (s.setBeam x y).playfieldMirrored = s.playfieldMirrored := rfl
@[simp] theorem setBeam_playfieldColor : (s.setBeam x y).playfieldColor = s.playfieldColor := rfl
@[simp] theorem setBeam_backgroundColor : (s.setBeam x y).backgroundColor = s.backgroundColor := rfl
@[simp] theorem setBeam_pendingWrite : (s.setBeam x y).pendingWrite = s.pendingWrite := rfl
@[simp] theorem setBeam_gunX : (s.setBeam x y).gunX = x := rfl
@[simp] theorem setBeam_gunY : (s.setBeam x y).gunY = y := rfl
@[simp] theorem setBeam_fatal : (s.setBeam x y).fatal = s.fatal := rfl
@[simp] theorem setBeam_video : (s.setBeam x y).video = s.video := rfl
@[simp] theorem setBeam_diag : (s.setBeam x y).diag = s.diag := rfl
@[simp] theorem setBeam_answer : (s.setBeam x y).answer = s.answer := rfl
@[simp] theorem setBeam_hung : (s.setBeam x y).hung = s.hung := rfl
@[simp] theorem setBeam_inbox : (s.setBeam x y).inbox = s.inbox := rfl
@[simp] theorem setBeam_atBoundary : (s.setBeam x y).atBoundary = s.atBoundary := rfl
@[simp] theorem setBeam_stopFlag : (s.setBeam x y).stopFlag = s.stopFlag := rfl
@[simp] theorem setBeam_regionDue : (s.setBeam x y).regionDue = s.regionDue := rfl
end

section
variable (s : State) (e : Option FatalEvent)

@[simp] theorem setFatal_params : (s.setFatal e).params = s.params := rfl
@[simp] theorem setFatal_writeTable : (s.setFatal e).writeTable = s.writeTable := rfl
@[simp] theorem setFatal_readTable : (s.setFatal e).readTable = s.readTable := rfl
@[simp] theorem setFatal_constructed : (s.setFatal e).constructed = s.constructed := rfl
@[simp] theorem setFatal_cycleNum : (s.setFatal e).cycleNum = s.cycleNum := rfl
@[simp] theorem setFatal_chipCycleNum : (s.setFatal e).chipCycleNum = s.chipCycleNum := rfl
@[simp] theorem setFatal_vsyncMode : (s.setFatal e).vsyncMode = s.vsyncMode := rfl
@[simp] theorem setFatal_vblankMode : (s.setFatal e).vblankMode = s.vblankMode := rfl
@[simp] theorem setFatal_playfieldMask : (s.setFatal e).playfieldMask = s.playfieldMask := rfl
@[simp] theorem setFatal_playfieldMirrored : (s.setFatal e).playfieldMirrored = s.playfieldMirrored := rfl
@[simp] theorem setFatal_playfieldColor : (s.setFatal e).playfieldColor = s.playfieldColor := rfl
@[simp] theorem setFatal_backgroundColor : (s.setFatal e).backgroundColor = s.backgroundColor := rfl
@[simp] theorem setFatal_pendingWrite : (s.setFatal e).pendingWrite = s.pendingWrite := rfl
@[simp] theorem setFatal_gunX : (s.setFatal e).gunX = s.gunX := rfl
@[simp] theorem setFatal_gunY : (s.setFatal e).gunY = s.gunY := rfl
@[simp] theorem setFatal_fatal : (s.setFatal e).fatal = e := rfl
@[simp] theorem setFatal_video : (s.setFatal e).video = s.video := rfl
@[simp] theorem setFatal_diag : (s.setFatal e).diag = s.diag := rfl
@[simp] theorem setFatal_answer : (s.setFatal e).answer = s.answer := rfl
@[simp] theorem setFatal_hung : (s.setFatal e).hung = s.hung := rfl
@[simp] theorem setFatal_inbox : (s.setFatal e).inbox = s.inbox := rfl
@[simp] theorem setFatal_atBoundary : (s.setFatal e).atBoundary = s.atBoundary := rfl
@[simp] theorem setFatal_stopFlag : (s.setFatal e).stopFlag = s.stopFlag := rfl
@[simp] theorem setFatal_regionDue : (s.setFatal e).regionDue = s.regionDue := rfl
end

section
variable (s : State) (a : Answer)

@[simp] theorem setAnswer_params : (s.setAnswer a).params = s.params := rfl
@[simp] theorem setAnswer_writeTable : (s.setAnswer a).writeTable = s.writeTable := rfl
@[simp] theorem setAnswer_readTable : (s.setAnswer a).readTable = s.readTable := rfl
@[simp] theorem setAnswer_constructed : (s.setAnswer a).constructed = s.constructed := rfl
@[simp] theorem setAnswer_cycleNum : (s.setAnswer a).cycleNum = s.cycleNum := rfl
@[simp] theorem setAnswer_chipCycleNum : (s.setAnswer a).chipCycleNum = s.chipCycleNum := rfl
@[simp] theorem setAnswer_vsyncMode : (s.setAnswer a).vsyncMode = s.vsyncMode := rfl
@[simp] theorem setAnswer_vblankMode : (s.setAnswer a).vblankMode = s.vblankMode := rfl
@[simp] theorem setAnswer_playfieldMask : (s.setAnswer a).playfieldMask = s.playfieldMask := rfl
@[simp] theorem setAnswer_playfieldMirrored : (s.setAnswer a).playfieldMirrored = s.playfieldMirrored := rfl
@[simp] theorem setAnswer_playfieldColor : (s.setAnswer a).playfieldColor = s.playfieldColor := rfl
@[simp] theorem setAnswer_backgroundColor : (s.setAnswer a).backgroundColor = s.backgroundColor := rfl
@[simp] theorem setAnswer_pendingWrite : (s.setAnswer a).pendingWrite = s.pendingWrite := rfl
@[simp] theorem setAnswer_gunX : (s.setAnswer a).gunX = s.gunX := rfl
@[simp] theorem setAnswer_gunY : (s.setAnswer a).gunY = s.gunY := rfl
@[simp] theorem setAnswer_fatal : (s.setAnswer a).fatal = s.fatal := rfl
@[simp] theorem setAnswer_video : (s.setAnswer a).video = s.video := rfl
@[simp] theorem setAnswer_diag : (s.setAnswer a).diag = s.diag := rfl
@[simp] theorem setAnswer_answer : (s.setAnswer a).answer = a := rfl
@[simp] theorem setAnswer_hung : (s.setAnswer a).hung = s.hung := rfl
@[simp] theorem setAnswer_inbox : (s.setAnswer a).inbox = s.inbox := rfl
@[simp] theorem setAnswer_atBoundary : (s.setAnswer a).atBoundary = s.atBoundary := rfl
@[simp] theorem setAnswer_stopFlag : (s.setAnswer a).stopFlag = s.stopFlag := rfl
@[simp] theorem setAnswer_regionDue : (s.setAnswer a).regionDue = s.regionDue := rfl
end

section
variable (s : State) (b : Bool)

@[simp] theorem setHung_params : (s.setHung b).params = s.params := rfl
@[simp] theorem setHung_writeTable : (s.setHung b).writeTable = s.writeTable := rfl
@[simp] theorem setHung_readTable : (s.setHung b).readTable = s.readTable := rfl
@[simp] theorem setHung_constructed : (s.setHung b).constructed = s.constructed := rfl
@[simp] theorem setHung_cycleNum : (s.setHung b).cycleNum = s.cycleNum := rfl
@[simp] theorem setHung_chipCycleNum : (s.setHung b).chipCycleNum = s.chipCycleNum := rfl
@[simp] theorem setHung_vsyncMode : (s.setHung b).vsyncMode = s.vsyncMode := rfl
@[simp] theorem setHung_vblankMode : (s.setHung b).vblankMode = s.vblankMode := rfl
@[simp] theorem setHung_playfieldMask : (s.setHung b).playfieldMask = s.playfieldMask := rfl
@[simp] theorem setHung_playfieldMirrored : (s.setHung b).playfieldMirrored = s.playfieldMirrored := rfl
@[simp] theorem setHung_playfieldColor : (s.setHung b).playfieldColor = s.playfieldColor := rfl
@[simp] theorem setHung_backgroundColor : (s.setHung b).backgroundColor = s.backgroundColor := rfl
@[simp] theorem setHung_pendingWrite : (s.setHung b).pendingWrite = s.pendingWrite := rfl
@[simp] theorem setHung_gunX : (s.setHung b).gunX = s.gunX := rfl
@[simp] theorem setHung_gunY : (s.setHung b).gunY = s.gunY := rfl
@[simp] theorem setHung_fatal : (s.setHung b).fatal = s.fatal := rfl
@[simp] theorem setHung_video : (s.setHung b).video = s.video := rfl
@[simp] theorem setHung_diag : (s.setHung b).diag = s.diag := rfl
@[simp] theorem setHung_answer : (s.setHung b).answer = s.answer := rfl
@[simp] theorem setHung_hung : (s.setHung b).hung = b := rfl
@[simp] theorem setHung_inbox : (s.setHung b).inbox = s.inbox := rfl
@[simp] theorem setHung_atBoundary : (s.setHung b).atBoundary = s.atBoundary := rfl
@[simp] theorem setHung_stopFlag : (s.setHung b).stopFlag = s.stopFlag := rfl
@[simp] theorem setHung_regionDue : (s.setHung b).regionDue = s.regionDue := rfl
end

section
variable (s : State) (l : List Input)

@[simp] theorem setInbox_params : (s.setInbox l).params = s.params := rfl
@[simp] theorem setInbox_writeTable : (s.setInbox l).writeTable = s.writeTable := rfl
@[simp] theorem setInbox_readTable : (s.setInbox l).readTable = s.readTable := rfl
@[simp] theorem setInbox_constructed : (s.setInbox l).constructed = s.constructed := rfl
@[simp] theorem setInbox_cycleNum : (s.setInbox l).cycleNum = s.cycleNum := rfl
@[simp] theorem setInbox_chipCycleNum : (s.setInbox l).chipCycleNum = s.chipCycleNum := rfl
@[simp] theorem setInbox_vsyncMode : (s.setInbox l).vsyncMode = s.vsyncMode := rfl
@[simp] theorem setInbox_vblankMode : (s.setInbox l).vblankMode = s.vblankMode := rfl
@[simp] theorem setInbox_playfieldMask : (s.setInbox l).playfieldMask = s.playfieldMask := rfl
@[simp] theorem setInbox_playfieldMirrored : (s.setInbox l).playfieldMirrored = s.playfieldMirrored := rfl
@[simp] theorem setInbox_playfieldColor : (s.setInbox l).playfieldColor = s.playfieldColor := rfl
@[simp] theorem setInbox_backgroundColor : (s.setInbox l).backgroundColor = s.backgroundColor := rfl
@[simp] theorem setInbox_pendingWrite : (s.setInbox l).pendingWrite = s.pendingWrite := rfl
@[simp] theorem setInbox_gunX : (s.setInbox l).gunX = s.gunX := rfl
@[simp] theorem setInbox_gunY : (s.setInbox l).gunY = s.gunY := rfl
@[simp] theorem setInbox_fatal : (s.setInbox l).fatal = s.fatal := rfl
@[simp] theorem setInbox_video : (s.setInbox l).video = s.video := rfl
@[simp] theorem setInbox_diag : (s.setInbox l).diag = s.diag := rfl
@[simp] theorem setInbox_answer : (s.setInbox l).answer = s.answer := rfl
@[simp] theorem setInbox_hung : (s.setInbox l).hung = s.hung := rfl
@[simp] theorem setInbox_inbox : (s.setInbox l).inbox = l := rfl
@[simp] theorem setInbox_atBoundary : (s.setInbox l).atBoundary = s.atBoundary := rfl
@[simp] theorem setInbox_stopFlag : (s.setInbox l).stopFlag = s.stopFlag := rfl
@[simp] theorem setInbox_regionDue : (s.setInbox l).regionDue = s.regionDue := rfl
end

section
variable (s : State) (b : Bool)

@[simp] theorem setAtBoundary_params : (s.setAtBoundary b).params = s.params := rfl
@[simp] theorem setAtBoundary_writeTable : (s.setAtBoundary b).writeTable = s.writeTable := rfl
@[simp] theorem setAtBoundary_readTable : (s.setAtBoundary b).readTable = s.readTable := rfl
@[simp] theorem setAtBoundary_constructed : (s.setAtBoundary b).constructed = s.constructed := rfl
@[simp] theorem setAtBoundary_cycleNum : (s.setAtBoundary b).cycleNum = s.cycleNum := rfl
@[simp] theorem setAtBoundary_chipCycleNum : (s.setAtBoundary b).chipCycleNum = s.chipCycleNum := rfl
@[simp] theorem setAtBoundary_vsyncMode : (s.setAtBoundary b).vsyncMode = s.vsyncMode := rfl
@[simp] theorem setAtBoundary_vblankMode : (s.setAtBoundary b).vblankMode = s.vblankMode := rfl
@[simp] theorem setAtBoundary_playfieldMask : (s.setAtBoundary b).playfieldMask = s.playfieldMask := rfl
@[simp] theorem setAtBoundary_playfieldMirrored : (s.setAtBoundary b).playfieldMirrored = s.playfieldMirrored := rfl
@[simp] theorem setAtBoundary_playfieldColor : (s.setAtBoundary b).playfieldColor = s.playfieldColor := rfl
@[simp] theorem setAtBoundary_backgroundColor : (s.setAtBoundary b).backgroundColor = s.backgroundColor := rfl
@[simp] theorem setAtBoundary_pendingWrite : (s.setAtBoundary b).pendingWrite = s.pendingWrite := rfl
@[simp] theorem setAtBoundary_gunX : (s.setAtBoundary b).gunX = s.gunX := rfl
@[simp] theorem setAtBoundary_gunY : (s.setAtBoundary b).gunY = s.gunY := rfl
@[simp] theorem setAtBoundary_fatal : (s.setAtBoundary b).fatal = s.fatal := rfl
@[simp] theorem setAtBoundary_video : (s.setAtBoundary b).video = s.video := rfl
@[simp] theorem setAtBoundary_diag : (s.setAtBoundary b).diag = s.diag := rfl
@[simp] theorem setAtBoundary_answer : (s.setAtBoundary b).answer = s.answer := rfl
@[simp] theorem setAtBoundary_hung : (s.setAtBoundary b).hung = s.hung := rfl
@[simp] theorem setAtBoundary_inbox : (s.setAtBoundary b).inbox = s.inbox := rfl
@[simp] theorem setAtBoundary_atBoundary : (s.setAtBoundary b).atBoundary = b := rfl
@[simp] theorem setAtBoundary_stopFlag : (s.setAtBoundary b).stopFlag = s.stopFlag := rfl
@[simp] theorem setAtBoundary_regionDue : (s.setAtBoundary b).regionDue = s.regionDue := rfl
end

section
variable (s : State) (b : Bool)

@[simp] theorem setStopFlag_params : (s.setStopFlag b).params = s.params := rfl
@[simp] theorem setStopFlag_writeTable : (s.setStopFlag b).writeTable = s.writeTable := rfl
@[simp] theorem setStopFlag_readTable : (s.setStopFlag b).readTable = s.readTable := rfl
@[simp] theorem setStopFlag_constructed : (s.setStopFlag b).constructed = s.constructed := rfl
@[simp] theorem setStopFlag_cycleNum : (s.setStopFlag b).cycleNum = s.cycleNum := rfl
@[simp] theorem setStopFlag_chipCycleNum : (s.setStopFlag b).chipCycleNum = s.chipCycleNum := rfl
@[simp] theorem setStopFlag_vsyncMode : (s.setStopFlag b).vsyncMode = s.vsyncMode := rfl
@[simp] theorem setStopFlag_vblankMode : (s.setStopFlag b).vblankMode = s.vblankMode := rfl
@[simp] theorem setStopFlag_playfieldMask : (s.setStopFlag b).playfieldMask = s.playfieldMask := rfl
@[simp] theorem setStopFlag_playfieldMirrored : (s.setStopFlag b).playfieldMirrored = s.playfieldMirrored := rfl
@[simp] theorem setStopFlag_playfieldColor : (s.setStopFlag b).playfieldColor = s.playfieldColor := rfl
@[simp] theorem setStopFlag_backgroundColor : (s.setStopFlag b).backgroundColor = s.backgroundColor := rfl
@[simp] theorem setStopFlag_pendingWrite : (s.setStopFlag b).pendingWrite = s.pendingWrite := rfl
@[simp] theorem setStopFlag_gunX : (s.setStopFlag b).gunX = s.gunX := rfl
@[simp] theorem setStopFlag_gunY : (s.setStopFlag b).gunY = s.gunY := rfl
@[simp] theorem setStopFlag_fatal : (s.setStopFlag b).fatal = s.fatal := rfl
@[simp] theorem setStopFlag_video : (s.setStopFlag b).video = s.video := rfl
@[simp] theorem setStopFlag_diag : (s.setStopFlag b).diag = s.diag := rfl
@[simp] theorem setStopFlag_answer : (s.setStopFlag b).answer = s.answer := rfl
@[simp] theorem setStopFlag_hung : (s.setStopFlag b).hung = s.hung := rfl
@[simp] theorem setStopFlag_inbox : (s.setStopFlag b).inbox = s.inbox := rfl
@[simp] theorem setStopFlag_atBoundary : (s.setStopFlag b).atBoundary = s.atBoundary := rfl
@[simp] theorem setStopFlag_stopFlag : (s.setStopFlag b).stopFlag = b := rfl
@[simp] theorem setStopFlag_regionDue : (s.setStopFlag b).regionDue = s.regionDue := rfl
end

section
variable (s : State) (b : Bool)

@[simp] theorem setRegionDue_params : (s.setRegionDue b).params = s.params := rfl
@[simp] theorem setRegionDue_writeTable : (s.setRegionDue b).writeTable = s.writeTable := rfl
@[simp] theorem setRegionDue_readTable : (s.setRegionDue b).readTable = s.readTable := rfl
@[simp] theorem setRegionDue_constructed : (s.setRegionDue b).constructed = s.constructed := rfl
@[simp] theorem setRegionDue_cycleNum : (s.setRegionDue b).cycleNum = s.cycleNum := rfl
@[simp] theorem setRegionDue_chipCycleNum : (s.setRegionDue b).chipCycleNum = s.chipCycleNum := rfl
@[simp] theorem setRegionDue_vsyncMode : (s.setRegionDue b).vsyncMode = s.vsyncMode := rfl
@[simp] theorem setRegionDue_vblankMode : (s.setRegionDue b).vblankMode = s.vblankMode := rfl
@[simp] theorem setRegionDue_playfieldMask : (s.setRegionDue b).playfieldMask = s.playfieldMask := rfl
@[simp] theorem setRegionDue_playfieldMirrored : (s.setRegionDue b).playfieldMirrored = s.playfieldMirrored := rfl
@[simp] theorem setRegionDue_playfieldColor : (s.setRegionDue b).playfieldColor = s.playfieldColor := rfl
@[simp] theorem setRegionDue_backgroundColor : (s.setRegionDue b).backgroundColor = s.backgroundColor := rfl
@[simp] theorem setRegionDue_pendingWrite : (s.setRegionDue b).pendingWrite = s.pendingWrite := rfl
@[simp] theorem setRegionDue_gunX : (s.setRegionDue b).gunX = s.gunX := rfl
@[simp] theorem setRegionDue_gunY : (s.setRegionDue b).gunY = s.gunY := rfl
@[simp] theorem setRegionDue_fatal : (s.setRegionDue b).fatal = s.fatal := rfl
@[simp] theorem setRegionDue_video : (s.setRegionDue b).video = s.video := rfl
@[simp] theorem setRegionDue_diag : (s.setRegionDue b).diag = s.diag := rfl
@[simp] theorem setRegionDue_answer : (s.setRegionDue b).answer = s.answer := rfl
@[simp] theorem setRegionDue_hung : (s.setRegionDue b).hung = s.hung := rfl
@[simp] theorem setRegionDue_inbox : (s.setRegionDue b).inbox = s.inbox := rfl
@[simp] theorem setRegionDue_atBoundary : (s.setRegionDue b).atBoundary = s.atBoundary := rfl
@[simp] theorem setRegionDue_stopFlag : (s.setRegionDue b).stopFlag = s.stopFlag := rfl
@[simp] theorem setRegionDue_regionDue : (s.setRegionDue b).regionDue = b := rfl
end

section
variable (s : State) (d : DiagEvent)

@[simp] theorem report_params : (s.report d).params = s.params := rfl
@[simp] theorem report_writeTable : (s.report d).writeTable = s.writeTable := rfl
@[simp] theorem report_readTable : (s.report d).readTable = s.readTable := rfl
@[simp] theorem report_constructed : (s.report d).constructed = s.constructed := rfl
@[simp] theorem report_cycleNum : (s.report d).cycleNum = s.cycleNum := rfl
@[simp] theorem report_chipCycleNum : (s.report d).chipCycleNum = s.chipCycleNum := rfl
@[simp] theorem report_vsyncMode : (s.report d).vsyncMode = s.vsyncMode := rfl
@[simp] theorem report_vblankMode : (s.report d).vblankMode = s.vblankMode := rfl
@[simp] theorem report_playfieldMask : (s.report d).playfieldMask = s.playfieldMask := rfl
@[simp] theorem report_playfieldMirrored : (s.report d).playfieldMirrored = s.playfieldMirrored := rfl
@[simp] theorem report_playfieldColor : (s.report d).playfieldColor = s.playfieldColor := rfl
@[simp] theorem report_backgroundColor : (s.report d).backgroundColor = s.backgroundColor := rfl
@[simp] theorem report_pendingWrite : (s.report d).pendingWrite = s.pendingWrite := rfl
@[simp] theorem report_gunX : (s.report d).gunX = s.gunX := rfl
@[simp] theorem report_gunY : (s.report d).gunY = s.gunY := rfl
@[simp] theorem report_fatal : (s.report d).fatal = s.fatal := rfl
@[simp] theorem report_video : (s.report d).video = s.video := rfl
@[simp] theorem report_diag : (s.report d).diag = s.diag ++ [d] := rfl
@[simp] theorem report_answer : (s.report d).answer = s.answer := rfl
@[simp] theorem report_hung : (s.report d).hung = s.hung := rfl
@[simp] theorem report_inbox : (s.report d).inbox = s.inbox := rfl
@[simp] theorem report_atBoundary : (s.report d).atBoundary = s.atBoundary := rfl
@[simp] theorem report_stopFlag : (s.report d).stopFlag = s.stopFlag := rfl
@[simp] theorem report_regionDue : (s.report d).regionDue = s.regionDue := rfl
end

section
variable (s : State) (e : PixelEvent)

@[simp] theorem emit_params : (s.emit e).params = s.params := rfl
@[simp] theorem emit_writeTable : (s.emit e).writeTable = s.writeTable := rfl
@[simp] theorem emit_readTable : (s.emit e).readTable = s.readTable := rfl
@[simp] theorem emit_constructed : (s.emit e).constructed = s.constructed := rfl
@[simp] theorem emit_cycleNum : (s.emit e).cycleNum = s.cycleNum := rfl
@[simp] theorem emit_chipCycleNum : (s.emit e).chipCycleNum = s.chipCycleNum := rfl
@[simp] theorem emit_vsyncMode : (s.emit e).vsyncMode = s.vsyncMode := rfl
@[simp] theorem emit_vblankMode : (s.emit e).vblankMode = s.vblankMode := rfl
@[simp] theorem emit_playfieldMask : (s.emit e).playfieldMask = s.playfieldMask := rfl
@[simp] theorem emit_playfieldMirrored : (s.emit e).playfieldMirrored = s.playfieldMirrored := rfl
@[simp] theorem emit_playfieldColor : (s.emit e).playfieldColor = s.playfieldColor := rfl
@[simp] theorem emit_backgroundColor : (s.emit e).backgroundColor = s.backgroundColor := rfl
@[simp] theorem emit_pendingWrite : (s.emit e).pendingWrite = s.pendingWrite := rfl
@[simp] theorem emit_gunX : (s.emit e).gunX = s.gunX := rfl
@[simp] theorem emit_gunY : (s.emit e).gunY = s.gunY := rfl
@[simp] theorem emit_fatal : (s.emit e).fatal = s.fatal := rfl
@[simp] theorem emit_video : (s.emit e).video = s.video ++ [e] := rfl
@[simp] theorem emit_diag : (s.emit e).diag = s.diag := rfl
@[simp] theorem emit_answer : (s.emit e).answer = s.answer := rfl
@[simp] theorem emit_hung : (s.emit e).hung = s.hung := rfl
@[simp] theorem emit_inbox : (s.emit e).inbox = s.inbox := rfl
@[simp] theorem emit_atBoundary : (s.emit e).atBoundary = s.atBoundary := rfl
@[simp] theorem emit_stopFlag : (s.emit e).stopFlag = s.stopFlag := rfl
@[simp] theorem emit_regionDue : (s.emit e).regionDue = s.regionDue := rfl
end

end State

section
variable (s : State) (e : FatalEvent)

@[simp] theorem raiseFatal_params : (raiseFatal e s).params = s.params := rfl
@[simp] theorem raiseFatal_writeTable : (raiseFatal e s).writeTable = s.writeTable := rfl
@[simp] theorem raiseFatal_readTable : (raiseFatal e s).readTable = s.readTable := rfl
@[simp] theorem raiseFatal_constructed : (raiseFatal e s).constructed = s.constructed := rfl
@[simp] theorem raiseFatal_cycleNum : (raiseFatal e s).cycleNum = s.cycleNum := rfl
@[simp] theorem raiseFatal_chipCycleNum : (raiseFatal e s).chipCycleNum = s.chipCycleNum := rfl
@[simp] theorem raiseFatal_vsyncMode : (raiseFatal e s).vsyncMode = s.vsyncMode := rfl
@[simp] theorem raiseFatal_vblankMode : (raiseFatal e s).vblankMode = s.vblankMode := rfl
@[simp] theorem raiseFatal_playfieldMask : (raiseFatal e s).playfieldMask = s.playfieldMask := rfl
@[simp] theorem raiseFatal_playfieldMirrored : (raiseFatal e s).playfieldMirrored = s.playfieldMirrored := rfl
@[simp] theorem raiseFatal_playfieldColor : (raiseFatal e s).playfieldColor = s.playfieldColor := rfl
@[simp] theorem raiseFatal_backgroundColor : (raiseFatal e s).backgroundColor = s.backgroundColor := rfl
@[simp] theorem raiseFatal_pendingWrite : (raiseFatal e s).pendingWrite = s.pendingWrite := rfl
@[simp] theorem raiseFatal_gunX : (raiseFatal e s).gunX = s.gunX := rfl
@[simp] theorem raiseFatal_gunY : (raiseFatal e s).gunY = s.gunY := rfl
@[simp] theorem raiseFatal_fatal : (raiseFatal e s).fatal = some e := rfl
@[simp] theorem raiseFatal_video : (raiseFatal e s).video = s.video := rfl
@[simp] theorem raiseFatal_diag : (raiseFatal e s).diag = s.diag ++ [.fatal e] := rfl
@[simp] theorem raiseFatal_answer : (raiseFatal e s).answer = s.answer := rfl
@[simp] theorem raiseFatal_hung : (raiseFatal e s).hung = s.hung := rfl
@[simp] theorem raiseFatal_inbox : (raiseFatal e s).inbox = s.inbox := rfl
@[simp] theorem raiseFatal_atBoundary : (raiseFatal e s).atBoundary = s.atBoundary := rfl
@[simp] theorem raiseFatal_stopFlag : (raiseFatal e s).stopFlag = s.stopFlag := rfl
@[simp] theorem raiseFatal_regionDue : (raiseFatal e s).regionDue = s.regionDue := rfl
end

end Sys2Proof.Machine
end

