-- ==== Sys2Proof/Laws/Ops.lean ====
section
/-! SUPPORT. What each guard and each shared operation can do, once. -/

namespace Sys2Proof.Machine

/-! ## Guards -/

section
variable {s t : State} {k : State → Result}

theorem whenConstructed_eq (h : Constructed s) : whenConstructed s k = k s := by
  simp [whenConstructed, h.1, h.2]

theorem whenLive_eq (h : Live s) : whenLive s k = k s := by
  rw [whenLive, whenConstructed_eq h.1]; simp [h.2]

theorem whenIdle_eq (h : Idle s) : whenIdle s k = k s := by
  rw [whenIdle, whenLive_eq h.1]; simp [h.2]

theorem onRaster_iff : s.onRaster = true ↔ OnRaster s := by simp [State.onRaster]

theorem whenOnRaster_eq (h : OnRaster s) : whenOnRaster s k = k s := by
  rw [whenOnRaster, if_pos (onRaster_iff.mpr h)]

theorem whenConstructed_next (h : whenConstructed s k = .next t) : Constructed s ∧ k s = .next t := by
  unfold whenConstructed at h
  split at h
  · cases h
  · split at h
    · cases h
    · rename_i h1 h2
      exact ⟨⟨by simpa using h1, by simpa using h2⟩, h⟩

theorem whenLive_next (h : whenLive s k = .next t) : Live s ∧ k s = .next t := by
  obtain ⟨hc, h⟩ := whenConstructed_next h
  split at h
  · cases h
  · rename_i hf
    exact ⟨⟨hc, by simpa using hf⟩, h⟩

theorem whenIdle_next (h : whenIdle s k = .next t) : Idle s ∧ k s = .next t := by
  obtain ⟨hc, h⟩ := whenLive_next h
  split at h
  · cases h
  · rename_i hf
    exact ⟨⟨hc, by simpa using hf⟩, h⟩

theorem whenOnRaster_next (h : whenOnRaster s k = .next t) : OnRaster s ∧ k s = .next t := by
  unfold whenOnRaster at h
  split at h
  · rename_i hr
    exact ⟨onRaster_iff.mp hr, h⟩
  · cases h

end

/-! ## The rest of an enclosing operation -/

@[simp] theorem orHalted_none {s : State} (h : s.fatal = none) (f : State → State) : s.orHalted f = f s := by
  simp [State.orHalted, h]

@[simp] theorem orHalted_some {s : State} {e : FatalEvent} (h : s.fatal = some e) (f : State → State) :
    s.orHalted f = s := by
  simp [State.orHalted, h]

/-- A property of both outcomes is a property of `orHalted`. -/
theorem orHalted_cases {P : State → Prop} {s : State} {f : State → State}
    (hn : s.fatal = none → P (f s)) (hs : ∀ e, s.fatal = some e → P s) : P (s.orHalted f) := by
  cases h : s.fatal with
  | none => rw [orHalted_none h]; exact hn h
  | some e => rw [orHalted_some h]; exact hs e h

/-! ## What an operation does, by operation -/

/-- The effect of each operation that has a step: which guard it met and which operation over the state it
performed. -/
inductive Effect (s : State) : Instr → State → Prop where
  | new (a b : Nat) (hc : s.constructed = false) (hv : (boundedParams s.params a b).valid = true) :
      Effect s (.new a b) (construct (boundedParams s.params a b) s)
  | query (i : Instr) (a : Answer) (hl : Live s)
      (hq : (∃ addr, i = .contains addr) ∨ i = .getBusRegion ∨ ∃ table addr, i = .lookup table addr) :
      Effect s i (s.setAnswer a)
  | read (addr : Nat) (hi : Idle s) : Effect s (.busRead addr) (busRead addr s)
  | write (i : Instr) (addr : Nat) (v : Byte) (hi : Idle s)
      (hw : i = .busWrite addr v ∨ ∃ r, i = registerWrite r v ∧ addr = s.params.addrOf r) :
      Effect s i (busWrite addr v s)
  | process (hi : Idle s) (hr : OnRaster s) : Effect s (.process s.cycleNum) (process s)
  | mirrorRecompute (hl : Live s) : Effect s .mirrorRecompute (mirrorRecompute s)
  | applyPending (hl : Live s) : Effect s .applyPending (applyPending s)
  | catchUp (hl : Live s) (hr : OnRaster s) : Effect s .catchUp (catchUp s)
  | chipCycle (hl : Live s) (hr : OnRaster s) : Effect s .chipCycle (chipCycle s)
  | beamAdvance (hl : Live s) (hr : OnRaster s) : Effect s .beamAdvance (beamAdvance s)
  | vsyncCheck (hl : Live s) (hr : OnRaster s) : Effect s .vsyncCheck (vsyncCheck s)
  | pixelEmit (hl : Live s) (hr : OnRaster s) : Effect s .pixelEmit (pixelEmit s)

/-- A query puts the driving loop at no boundary. -/
theorem boundaryAfter_query {i : Instr} {b : Bool}
    (hq : (∃ addr, i = .contains addr) ∨ i = .getBusRegion ∨ ∃ table addr, i = .lookup table addr)
    (h : boundaryAfter i b = true) : b = true := by
  rcases hq with ⟨_, rfl⟩ | rfl | ⟨_, _, rfl⟩
  · cases h
  · exact h
  · cases h

/-- A register row answers a next state by its write transaction only. -/
theorem writeRegister_next {r : RegId} {v : Byte} {s t : State} (h : writeRegister r v s = .next t) :
    Effect s (registerWrite r v) t := by
  obtain ⟨hi, h⟩ := whenIdle_next h
  cases h
  exact .write _ _ _ hi (.inr ⟨r, rfl, rfl⟩)

/-- What `exec` can do. -/
theorem exec_next {i : Instr} {s t : State} (h : exec i s = .next t) : Effect s i t := by
  cases i with
  | new a b =>
    simp only [exec, execNew] at h
    split at h
    · cases h
    · rename_i hc
      split at h
      · rename_i hv
        cases h
        exact .new a b (by simpa using hc) hv
      · cases h
  | contains a =>
    obtain ⟨hi, h⟩ := whenIdle_next (k := fun s => .next (s.setAnswer _)) h
    cases h
    exact .query _ _ hi.1 (.inl ⟨_, rfl⟩)
  | getBusRegion =>
    obtain ⟨hi, h⟩ := whenIdle_next (k := fun s => .next (s.setAnswer _)) h
    cases h
    exact .query _ _ hi.1 (.inr (.inl rfl))
  | lookup tb a =>
    simp only [exec, execLookup] at h
    obtain ⟨hl, h⟩ := whenLive_next h
    cases h
    exact .query _ _ hl (.inr (.inr ⟨_, _, rfl⟩))
  | busRead a =>
    simp only [exec, execBusRead] at h
    obtain ⟨hi, h⟩ := whenIdle_next h
    cases h
    exact .read a hi
  | busWrite a v =>
    simp only [exec, execBusWrite] at h
    obtain ⟨hi, h⟩ := whenIdle_next h
    cases h
    exact .write _ a v hi (.inl rfl)
  | wVsync v => exact writeRegister_next (r := .vsync) h
  | wVblank v => exact writeRegister_next (r := .vblank) h
  | wWsync v => exact writeRegister_next (r := .wsync) h
  | wColupf v => exact writeRegister_next (r := .colupf) h
  | wColubk v => exact writeRegister_next (r := .colubk) h
  | wCtrlpf v => exact writeRegister_next (r := .ctrlpf) h
  | wPf0 v => exact writeRegister_next (r := .pf0) h
  | wPf1 v => exact writeRegister_next (r := .pf1) h
  | wPf2 v => exact writeRegister_next (r := .pf2) h
  | process c =>
    simp only [exec, execProcess] at h
    obtain ⟨hi, h⟩ := whenIdle_next h
    split at h
    · rename_i hc
      obtain ⟨hr, h⟩ := whenOnRaster_next h
      cases h
      rw [hc]
      exact .process hi hr
    · cases h
  | mirrorRecompute =>
    simp only [exec, execMirrorRecompute] at h
    obtain ⟨hl, h⟩ := whenLive_next h
    cases h
    exact .mirrorRecompute hl
  | applyPending =>
    simp only [exec, execApplyPending] at h
    obtain ⟨hl, h⟩ := whenLive_next h
    cases h
    exact .applyPending hl
  | catchUp =>
    simp only [exec, execCatchUp] at h
    obtain ⟨hl, h⟩ := whenLive_next h
    obtain ⟨hr, h⟩ := whenOnRaster_next h
    cases h
    exact .catchUp hl hr
  | chipCycle =>
    simp only [exec, execChipCycle] at h
    obtain ⟨hl, h⟩ := whenLive_next h
    obtain ⟨hr, h⟩ := whenOnRaster_next h
    cases h
    exact .chipCycle hl hr
  | beamAdvance =>
    simp only [exec, execBeamAdvance] at h
    obtain ⟨hl, h⟩ := whenLive_next h
    obtain ⟨hr, h⟩ := whenOnRaster_next h
    cases h
    exact .beamAdvance hl hr
  | vsyncCheck =>
    simp only [exec, execVsyncCheck] at h
    obtain ⟨hl, h⟩ := whenLive_next h
    obtain ⟨hr, h⟩ := whenOnRaster_next h
    cases h
    exact .vsyncCheck hl hr
  | pixelEmit =>
    simp only [exec, execPixelEmit] at h
    obtain ⟨hl, h⟩ := whenLive_next h
    obtain ⟨hr, h⟩ := whenOnRaster_next h
    cases h
    exact .pixelEmit hl hr

/-- What a step while PROCESS hangs can do. -/
theorem hungStep_next {s t : State} (h : hungStep s = .next t) :
    (∃ rest, withoutStop s.inbox = some rest ∧ t = (s.setInbox rest).setStopFlag true) ∨
      (withoutStop s.inbox = none ∧ Live s ∧ OnRaster s ∧ t = hungCycle s) := by
  unfold hungStep at h
  split at h
  · rename_i rest hw
    cases h
    exact .inl ⟨rest, hw, rfl⟩
  · rename_i hw
    obtain ⟨hl, h⟩ := whenLive_next h
    obtain ⟨hr, h⟩ := whenOnRaster_next h
    cases h
    exact .inr ⟨hw, hl, hr, rfl⟩

/-- There is nothing to remove exactly when the stop flag is not among the inputs. -/
theorem withoutStop_eq_none {l : List Input} : withoutStop l = none ↔ Input.stop ∉ l := by
  induction l with
  | nil => simp [withoutStop]
  | cons inp rest ih => cases inp <;> simp [withoutStop, ih]

/-- What is removed is the first setting of the stop flag. -/
theorem withoutStop_append {before rest : List Input} (h : Input.stop ∉ before) :
    withoutStop (before ++ .stop :: rest) = some (before ++ rest) := by
  induction before with
  | nil => rfl
  | cons inp before ih =>
    simp only [List.mem_cons, not_or] at h
    have ih := ih h.2
    cases inp with
    | stop => exact absurd rfl h.1
    | cpu n => simp only [List.cons_append, withoutStop, ih, Option.map_some]
    | request r => simp only [List.cons_append, withoutStop, ih, Option.map_some]

/-- What the surroundings may ask for, and when (60_exceptions.md R171, R173). -/
theorem refusalOf_eq_none {s : State} {i : Instr} :
    refusalOf s i = none ↔
      hostVisible i = true ∧ (i = .getBusRegion → s.regionDue = true) ∧ (s.loopLeft = true → byStartup i = true) := by
  unfold refusalOf
  split
  · simp [*]
  · split
    · rename_i h
      simp [h.1, h.2]
    · rename_i hv hr
      have hr : i = .getBusRegion → s.regionDue = true := fun h => by simpa [h] using hr
      cases hl : s.loopLeft <;> cases hb : byStartup i <;> simp [hv] <;> exact hr

/-- What `step` can do. -/
theorem step_next {s t : State} (h : step s = .next t) :
    (s.hung = true ∧ ((∃ rest, withoutStop s.inbox = some rest ∧ t = (s.setInbox rest).setStopFlag true) ∨
        (withoutStop s.inbox = none ∧ Live s ∧ OnRaster s ∧ t = hungCycle s))) ∨
      (s.hung = false ∧
        ((s.inbox = [] ∧ t = s) ∨
          ∃ rest, (∃ n, s.inbox = .cpu n :: rest ∧ s.loopLeft = false ∧ Idle s ∧
              t = (((s.setInbox rest).setCycleNum (s.cycleNum + n)).setAtBoundary false).setRegionDue false) ∨
            (s.inbox = .stop :: rest ∧ t = (s.setInbox rest).setStopFlag true) ∨
            ∃ r i, s.inbox = .request r :: rest ∧ decode s.params r = .ok i ∧
              refusalOf s i = none ∧ exec i (s.taking i rest) = .next t)) := by
  unfold step at h
  split at h
  · rename_i hh
    exact .inl ⟨hh, hungStep_next h⟩
  · rename_i hh
    refine .inr ⟨by simpa using hh, ?_⟩
    split at h
    · rename_i hb
      cases h
      exact .inl ⟨hb, rfl⟩
    · rename_i inp rest hb
      refine .inr ⟨rest, ?_⟩
      cases inp with
      | cpu n =>
        simp only [takeInput, cpuAdvance] at h
        split at h
        · cases h
        · rename_i hl
          obtain ⟨hi, h⟩ := whenIdle_next h
          cases h
          exact .inl ⟨n, hb, Bool.eq_false_iff.mpr hl, hi, rfl⟩
      | stop =>
        cases h
        exact .inr (.inl ⟨hb, rfl⟩)
      | request r =>
        simp only [takeInput] at h
        split at h
        · rename_i i hd
          split at h
          · cases h
          · rename_i hv
            exact .inr (.inr ⟨r, i, hb, hd, hv, h⟩)
        · cases h

/-! ## When `step` is refused as stopped -/

section
variable {s : State} {k : State → Result}

theorem whenConstructed_ne_stopped (h : ∀ s, k s ≠ .refused .stopped) : whenConstructed s k ≠ .refused .stopped := by
  unfold whenConstructed
  split
  · simp
  · split
    · simp
    · exact h s

theorem whenLive_ne_stopped (h : ∀ s, k s ≠ .refused .stopped) : whenLive s k ≠ .refused .stopped :=
  whenConstructed_ne_stopped fun s => by
    split
    · simp
    · exact h s

theorem whenIdle_ne_stopped (h : ∀ s, k s ≠ .refused .stopped) : whenIdle s k ≠ .refused .stopped :=
  whenLive_ne_stopped fun s => by
    split
    · simp
    · exact h s

theorem whenOnRaster_ne_stopped (h : ∀ s, k s ≠ .refused .stopped) : whenOnRaster s k ≠ .refused .stopped := by
  unfold whenOnRaster
  split
  · exact h s
  · simp

end

/-- No operation is refused as stopped: the stop flag acts on the driving loop, not on the chip (60_exceptions.md R162). -/
theorem exec_ne_stopped (i : Instr) (s : State) : exec i s ≠ .refused .stopped := by
  have query : ∀ {s : State} {f : State → State}, whenIdle s (fun s => .next (f s)) ≠ .refused .stopped :=
    whenIdle_ne_stopped (by simp)
  have part : ∀ {s : State} {f : State → State}, whenLive s (fun s => .next (f s)) ≠ .refused .stopped :=
    whenLive_ne_stopped (by simp)
  have beam : ∀ {s : State} {f : State → State},
      whenLive s (fun s => whenOnRaster s fun s => .next (f s)) ≠ .refused .stopped :=
    whenLive_ne_stopped fun s => whenOnRaster_ne_stopped (by simp)
  cases i with
  | new a b =>
    simp only [exec, execNew]
    split
    · simp
    · split <;> simp
  | process c =>
    simp only [exec, execProcess]
    refine whenIdle_ne_stopped fun s => ?_
    split
    · exact whenOnRaster_ne_stopped (by simp)
    · simp
  | catchUp => exact beam
  | chipCycle => exact beam
  | beamAdvance => exact beam
  | vsyncCheck => exact beam
  | pixelEmit => exact beam
  | lookup tb a => exact part
  | mirrorRecompute => exact part
  | applyPending => exact part
  | contains a => exact query (f := fun s => s.setAnswer _)
  | getBusRegion => exact query (f := fun s => s.setAnswer _)
  | busRead a => exact query (f := busRead a)
  | busWrite a v => exact query (f := busWrite a v)
  | wVsync v => exact query
  | wVblank v => exact query
  | wWsync v => exact query
  | wColupf v => exact query
  | wColubk v => exact query
  | wCtrlpf v => exact query
  | wPf0 v => exact query
  | wPf1 v => exact query
  | wPf2 v => exact query

/-- `step` is refused as stopped only where the driving loop has left, and no PROCESS hangs there. -/
theorem step_stopped {s : State} (h : step s = .refused .stopped) : s.hung = false ∧ s.loopLeft = true := by
  unfold step at h
  split at h
  · unfold hungStep at h
    split at h
    · cases h
    · exact absurd h (whenLive_ne_stopped fun s => whenOnRaster_ne_stopped (by simp))
  · rename_i hh
    refine ⟨by simpa using hh, ?_⟩
    split at h
    · cases h
    · rename_i inp rest hb
      cases inp with
      | cpu n =>
        simp only [takeInput, cpuAdvance] at h
        split at h
        · assumption
        · exact absurd h (whenIdle_ne_stopped (by simp))
      | stop => cases h
      | request r =>
        simp only [takeInput] at h
        split at h
        · rename_i i hd
          split at h
          · rename_i hr
            cases h
            simp only [refusalOf] at hr
            split at hr
            · cases hr
            · split at hr
              · cases hr
              · split at hr
                · rename_i hl
                  simp only [Bool.and_eq_true] at hl
                  exact hl.1
                · cases hr
          · exact absurd h (exec_ne_stopped i _)
        · cases h

end Sys2Proof.Machine
end

