-- ==== Sys2Proof/Laws/Beam.lean ====
section
/-! SUPPORT. The chip cycle and catch-up (43_beam_model.md R135 to R142, 42_cycle_synchronizer.md R122, R123). -/

namespace Sys2Proof.Machine

/-! ## Positions as one number -/

theorem xOf_mod (p : Params) (k m : Nat) : xOf p (k % p.frameLength + m) = xOf p (k + m) := by
  have : (k % p.frameLength + m) ≡ k + m [MOD p.lineLength] :=
    Nat.ModEq.add_right m ((Nat.mod_modEq k p.frameLength).of_mul_right p.linesPerFrame)
  exact this

theorem yOf_mod (p : Params) (k m : Nat) : yOf p (k % p.frameLength + m) = yOf p (k + m) := by
  have : (k % p.frameLength + m) % p.frameLength = (k + m) % p.frameLength := by simp
  simp only [yOf]
  rw [← Nat.mod_mul_right_div_self, ← Nat.mod_mul_right_div_self (k + m)]
  exact congrArg (· / p.lineLength) this

section
variable {p : Params} {x y : Nat} (hx : x < p.lineLength) (hy : y < p.linesPerFrame)
include hx hy

omit hy in
theorem xOf_index : xOf p (x + p.lineLength * y) = x := by
  rw [xOf, Nat.add_mul_mod_self_left, Nat.mod_eq_of_lt hx]

theorem yOf_index : yOf p (x + p.lineLength * y) = y := by
  rw [yOf, Nat.add_mul_div_left _ _ (by omega), Nat.div_eq_of_lt hx, Nat.zero_add, Nat.mod_eq_of_lt hy]

theorem index_lt : x + p.lineLength * y < p.frameLength := by
  calc x + p.lineLength * y < p.lineLength + p.lineLength * y := Nat.add_lt_add_right hx _
    _ = p.lineLength * (y + 1) := by ring
    _ ≤ p.frameLength := Nat.mul_le_mul_left _ hy

/-- BEAM_ADVANCE goes to the next position index, wrapping at the frame (R136). -/
theorem nextBeam_eq :
    nextBeam p x y = (xOf p (x + p.lineLength * y + 1), yOf p (x + p.lineLength * y + 1)) := by
  simp only [nextBeam]
  by_cases h1 : x + 1 = p.lineLength
  · have e : x + p.lineLength * y + 1 = 0 + p.lineLength * (y + 1) := by rw [Nat.mul_succ]; omega
    rw [if_pos h1, e]
    by_cases h2 : y + 1 = p.linesPerFrame
    · rw [if_pos h2, h2]
      simp [xOf, yOf, Nat.mul_div_cancel_left _ (show 0 < p.lineLength by omega)]
    · rw [if_neg h2, xOf_index (by omega), yOf_index (by omega) (by omega)]
  · have e : x + p.lineLength * y + 1 = (x + 1) + p.lineLength * y := by omega
    rw [if_neg h1, e, xOf_index (by omega), yOf_index (by omega) hy]

end

theorem xOf_lt {p : Params} (h : 0 < p.lineLength) (k : Nat) : xOf p k < p.lineLength := Nat.mod_lt _ h
theorem yOf_lt {p : Params} (h : 0 < p.linesPerFrame) (k : Nat) : yOf p k < p.linesPerFrame := Nat.mod_lt _ h

theorem lineLength_pos {p : Params} (h : p.valid = true) : 0 < p.lineLength := by
  have := valid_timing h; omega

theorem linesPerFrame_pos {p : Params} (h : p.valid = true) : 0 < p.linesPerFrame := by
  have := valid_timing h; omega

/-- The index of a position is the index. -/
theorem index_xOf_yOf {p : Params} (k : Nat) :
    xOf p k + p.lineLength * yOf p k = k % p.frameLength := by
  rw [xOf, yOf, ← Nat.mod_mul_right_div_self, Params.frameLength]
  conv_rhs => rw [← Nat.mod_add_div (k % (p.lineLength * p.linesPerFrame)) p.lineLength]
  rw [Nat.mod_mul_right_mod]

/-! ## One chip cycle -/

theorem beamAdvance_eq {s : State} (h : OnRaster s) : beamAdvance s = s.atIndex (beamIndex s + 1) := by
  simp only [beamAdvance, nextBeam_eq h.1 h.2, State.atIndex, beamIndex]

@[simp] theorem beamAdvance_fatal (s : State) : (beamAdvance s).fatal = s.fatal := rfl

/-- The check passes a legal line and changes nothing (R138). -/
theorem vsyncCheck_legal {s : State} (h : lineLegal s.params s.vsyncMode s.gunY = true) : vsyncCheck s = s := by
  simp only [lineLegal, Bool.and_eq_true, Bool.not_eq_true'] at h
  simp [vsyncCheck, h.1, h.2]

/-- The condition that an illegal line raises (R138). -/
def violation (s : State) : FatalEvent :=
  if s.vsyncMode then .vsyncTooLong s.gunX s.gunY s.chipCycleNum
  else .vsyncMissing s.gunX s.gunY s.chipCycleNum

theorem vsyncCheck_illegal {s : State} (h : lineLegal s.params s.vsyncMode s.gunY = false) :
    vsyncCheck s = raiseFatal (violation s) s := by
  cases hv : s.vsyncMode <;>
    simp_all [lineLegal, vsyncCheck, violation, vsyncMissing, vsyncTooLong]

/-- The check either changes nothing or raises the line's condition. -/
theorem vsyncCheck_cases (s : State) : vsyncCheck s = s ∨ vsyncCheck s = raiseFatal (violation s) s := by
  cases h : lineLegal s.params s.vsyncMode s.gunY with
  | true => exact .inl (vsyncCheck_legal h)
  | false => exact .inr (vsyncCheck_illegal h)

theorem pixelEmit_eq (s : State) :
    pixelEmit s = { s with
      video := s.video ++ ((pixelValue s).map fun v => { x := s.gunX, y := s.gunY, value := v }).toList } := by
  unfold pixelEmit
  cases pixelValue s <;> simp [State.emit]

theorem atIndex_params (s : State) (k : Nat) : (s.atIndex k).params = s.params := rfl

/-- A chip cycle onto a legal line (R135): the pixel of the new position, one more cycle counted. -/
theorem chipCycle_legal {s : State} (hr : OnRaster s) (hf : s.fatal = none)
    (hl : lineLegal s.params s.vsyncMode (yOf s.params (beamIndex s + 1)) = true) : chipCycle s = s.ahead 1 := by
  have hl' : lineLegal (s.atIndex (beamIndex s + 1)).params (s.atIndex (beamIndex s + 1)).vsyncMode
      (s.atIndex (beamIndex s + 1)).gunY = true := hl
  rw [chipCycle, beamAdvance_eq hr, vsyncCheck_legal hl', orHalted_none (by exact hf), emitAndCount, pixelEmit_eq]
  simp only [State.ahead, pixelsAhead, List.range_one, List.filterMap_cons, List.filterMap_nil, Nat.add_zero]
  simp only [pixelAt, State.setChipCycleNum]
  cases h : pixelValue (s.atIndex (beamIndex s + 1)) <;> rfl

/-- A chip cycle onto an illegal line (R135): the beam has moved, nothing is emitted or counted. -/
theorem chipCycle_illegal {s : State} (hr : OnRaster s)
    (hl : lineLegal s.params s.vsyncMode (yOf s.params (beamIndex s + 1)) = false) :
    chipCycle s = raiseFatal (violation (s.atIndex (beamIndex s + 1))) (s.atIndex (beamIndex s + 1)) := by
  have hl' : lineLegal (s.atIndex (beamIndex s + 1)).params (s.atIndex (beamIndex s + 1)).vsyncMode
      (s.atIndex (beamIndex s + 1)).gunY = false := hl
  rw [chipCycle, beamAdvance_eq hr, vsyncCheck_illegal hl', orHalted_some (raiseFatal_fatal _ _)]

/-! ## Many chip cycles -/

@[simp] theorem ahead_params (s : State) (n : Nat) : (s.ahead n).params = s.params := rfl
@[simp] theorem ahead_vsyncMode (s : State) (n : Nat) : (s.ahead n).vsyncMode = s.vsyncMode := rfl
@[simp] theorem ahead_fatal (s : State) (n : Nat) : (s.ahead n).fatal = s.fatal := rfl

theorem ahead_zero {s : State} (hr : OnRaster s) : s.ahead 0 = s := by
  simp only [State.ahead, pixelsAhead, List.range_zero, List.filterMap_nil, List.append_nil, Nat.add_zero,
    beamIndex, xOf_index hr.1, yOf_index hr.1 hr.2]

theorem ahead_onRaster {s : State} (hv : s.params.valid = true) (n : Nat) : OnRaster (s.ahead n) :=
  ⟨xOf_lt (lineLength_pos hv) _, yOf_lt (linesPerFrame_pos hv) _⟩

theorem beamIndex_ahead (s : State) (n : Nat) :
    beamIndex (s.ahead n) = (beamIndex s + n) % s.params.frameLength := index_xOf_yOf _

theorem pixelAt_ahead (s : State) (n m : Nat) :
    pixelAt (s.ahead n) (beamIndex (s.ahead n) + m + 1) = pixelAt s (beamIndex s + n + m + 1) := by
  have hx : xOf s.params (beamIndex (s.ahead n) + m + 1) = xOf s.params (beamIndex s + n + m + 1) := by
    rw [beamIndex_ahead, Nat.add_assoc, xOf_mod, ← Nat.add_assoc]
  have hy : yOf s.params (beamIndex (s.ahead n) + m + 1) = yOf s.params (beamIndex s + n + m + 1) := by
    rw [beamIndex_ahead, Nat.add_assoc, yOf_mod, ← Nat.add_assoc]
  simp only [pixelAt, State.atIndex, ahead_params, hx, hy]
  rfl

theorem pixelsAhead_add (s : State) (n m : Nat) :
    pixelsAhead s (n + m) = pixelsAhead s n ++ pixelsAhead (s.ahead n) m := by
  simp only [pixelsAhead, List.range_add, List.filterMap_append, List.filterMap_map]
  congr 1
  apply List.filterMap_congr
  intro k _
  simp only [Function.comp_apply, pixelAt_ahead]
  congr 1
  omega

/-- Chip cycles add up. -/
theorem ahead_ahead (s : State) (n m : Nat) : (s.ahead n).ahead m = s.ahead (n + m) := by
  have hx : xOf s.params (beamIndex (s.ahead n) + m) = xOf s.params (beamIndex s + (n + m)) := by
    rw [beamIndex_ahead, xOf_mod, Nat.add_assoc]
  have hy : yOf s.params (beamIndex (s.ahead n) + m) = yOf s.params (beamIndex s + (n + m)) := by
    rw [beamIndex_ahead, yOf_mod, Nat.add_assoc]
  have hp := pixelsAhead_add s n m
  simp only [State.ahead] at hx hy hp ⊢
  rw [hx, hy, hp, Nat.add_assoc, List.append_assoc]

theorem linesLegal_succ {s : State} {n : Nat} (h : LinesLegal s (n + 1)) : LinesLegal (s.ahead 1) n := by
  intro k hk
  have := h (k + 1) (by omega)
  simp only [ahead_params, ahead_vsyncMode, beamIndex_ahead, Nat.add_assoc, yOf_mod] at this ⊢
  rwa [show 1 + (k + 1) = k + (1 + 1) by omega]

/-- Catch-up over legal lines (42_cycle_synchronizer.md R122, R123). -/
theorem runChipCycles_legal (n : Nat) {s : State} (hv : s.params.valid = true) (hr : OnRaster s)
    (hf : s.fatal = none) (hl : LinesLegal s n) : runChipCycles n s = s.ahead n := by
  induction n generalizing s with
  | zero => exact (ahead_zero hr).symm
  | succ n ih =>
    rw [runChipCycles, chipCycle_legal hr hf (hl 0 (by omega)), orHalted_none (by exact hf),
      ih (s := s.ahead 1) hv (ahead_onRaster hv 1) hf (linesLegal_succ hl), ahead_ahead, Nat.add_comm]

/-- Catch-up onto a first illegal line (43_beam_model.md R138): `n` chip cycles complete, the next one halts. -/
theorem runChipCycles_illegal (n m : Nat) {s : State} (hv : s.params.valid = true) (hr : OnRaster s)
    (hf : s.fatal = none) (hl : LinesLegal s n)
    (hi : lineLegal s.params s.vsyncMode (yOf s.params (beamIndex s + n + 1)) = false) :
    runChipCycles (n + 1 + m) s = chipCycle (s.ahead n) := by
  induction n generalizing s with
  | zero =>
    have hi' : lineLegal s.params s.vsyncMode (yOf s.params (beamIndex s + 1)) = false := hi
    rw [ahead_zero hr, show 0 + 1 + m = m + 1 by omega, runChipCycles, chipCycle_illegal hr hi',
      orHalted_some (raiseFatal_fatal _ _)]
  | succ n ih =>
    have hi' : lineLegal (s.ahead 1).params (s.ahead 1).vsyncMode
        (yOf (s.ahead 1).params (beamIndex (s.ahead 1) + n + 1)) = false := by
      rw [ahead_params, ahead_vsyncMode, beamIndex_ahead, Nat.add_assoc, yOf_mod]
      rwa [show beamIndex s + 1 + (n + 1) = beamIndex s + (n + 1) + 1 by omega]
    rw [show n + 1 + 1 + m = (n + 1 + m) + 1 by omega, runChipCycles,
      chipCycle_legal hr hf (hl 0 (by omega)), orHalted_none (by exact hf),
      ih (s := s.ahead 1) hv (ahead_onRaster hv 1) hf (linesLegal_succ hl) hi', ahead_ahead, Nat.add_comm]

end Sys2Proof.Machine
end

