-- ==== Sys2Proof/Laws/Bits.lean ====
section
/-! SUPPORT. Bits of slices, reversals and extensions (41_register_handlers.md R109, R111). -/

namespace Sys2Proof.Machine

/-- What writing a slice does to each bit. -/
theorem getLsbD_setSlice (m : Mask) (lo len : Nat) (v : BitVec len) (i : Nat) (hi : i < 40) :
    (setSlice m lo len v).getLsbD i = if lo ≤ i ∧ i < lo + len then v.getLsbD (i - lo) else m.getLsbD i := by
  by_cases h1 : lo ≤ i
  · by_cases h2 : i < lo + len
    · have : i - lo < len := by omega
      simp [setSlice, hi, h1, h2, this, Nat.not_lt.mpr h1]
    · have : ¬ i - lo < len := by omega
      simp [setSlice, hi, h1, h2, this, BitVec.getLsbD_of_ge v (i - lo) (by omega)]
  · simp [setSlice, hi, h1, Nat.lt_of_not_le h1]

@[simp] theorem getLsbD_lowHalf (m : Mask) (i : Nat) :
    (lowHalf m).getLsbD i = (decide (i < 20) && m.getLsbD i) := by
  simp [lowHalf, BitVec.getLsbD_extractLsb']

@[simp] theorem getLsbD_highHalf (m : Mask) (i : Nat) :
    (highHalf m).getLsbD i = (decide (i < 20) && m.getLsbD (20 + i)) := by
  simp [highHalf, BitVec.getLsbD_extractLsb']

theorem getLsbD_rev {n : Nat} (v : BitVec n) (i : Nat) (hi : i < n) :
    (rev v).getLsbD i = v.getLsbD (n - 1 - i) := by
  rw [rev, BitVec.getLsbD_reverse, BitVec.getMsbD_eq_getLsbD, decide_eq_true hi, Bool.true_and]

/-- In the mirrored mode the extension is the reversal of the whole pattern (R109). -/
theorem getLsbD_upper (low : Pattern) (mirrored : Bool) (i : Nat) (hi : i < 20) :
    (upper low mirrored).getLsbD i = if mirrored then low.getLsbD (19 - i) else low.getLsbD i := by
  cases mirrored
  · simp [upper]
  · simp only [upper, if_true]
    rw [BitVec.getLsbD_append, BitVec.getLsbD_append]
    by_cases h8 : i < 8
    · simp only [h8, if_true, getLsbD_rev _ _ h8, BitVec.getLsbD_extractLsb']
      have : 8 - 1 - i < 8 := by omega
      simp [this, show 12 + (7 - i) = 19 - i by omega]
    · by_cases h16 : i < 16
      · have h : i - 8 < 8 := by omega
        simp only [h8, h, if_true, if_false, getLsbD_rev _ _ h, BitVec.getLsbD_extractLsb']
        have : 8 - 1 - (i - 8) < 8 := by omega
        simp [this, show 4 + (7 - (i - 8)) = 19 - i by omega]
      · have h : ¬ i - 8 < 8 := by omega
        have h4 : i - 8 - 8 < 4 := by omega
        simp only [h8, h, if_false, getLsbD_rev _ _ h4, BitVec.getLsbD_extractLsb']
        simp [show 3 - (i - 8 - 8) = 19 - i by omega, show 19 - i < 4 by omega]

/-- The derived half is replaced. -/
@[simp] theorem highHalf_setSlice_high (m : Mask) (u : Pattern) : highHalf (setSlice m 20 20 u) = u := by
  apply BitVec.eq_of_getLsbD_eq
  intro i hi
  rw [getLsbD_highHalf, getLsbD_setSlice _ _ _ _ _ (by omega)]
  simp only [hi, decide_true, Bool.true_and, Nat.le_add_right, Nat.add_lt_add_left hi, and_self, if_true,
    Nat.add_sub_cancel_left]

/-- The programmed half is kept. -/
@[simp] theorem lowHalf_setSlice_high (m : Mask) (u : Pattern) : lowHalf (setSlice m 20 20 u) = lowHalf m := by
  apply BitVec.eq_of_getLsbD_eq
  intro i hi
  rw [getLsbD_lowHalf, getLsbD_lowHalf, getLsbD_setSlice _ _ _ _ _ (by omega), if_neg (by omega)]

/-- A mask is its two halves. -/
theorem mask_ext {m n : Mask} (hl : lowHalf m = lowHalf n) (hh : highHalf m = highHalf n) : m = n := by
  apply BitVec.eq_of_getLsbD_eq
  intro i hi
  by_cases h : i < 20
  · have := congrArg (BitVec.getLsbD · i) hl
    simpa only [getLsbD_lowHalf, h, decide_true, Bool.true_and] using this
  · have := congrArg (BitVec.getLsbD · (i - 20)) hh
    simpa only [getLsbD_highHalf, show i - 20 < 20 by omega, decide_true, Bool.true_and,
      show 20 + (i - 20) = i by omega] using this

end Sys2Proof.Machine
end

