-- ==== Sys2Proof/Laws/Frames.lean ====
section
/-! SUPPORT. What every operation keeps and how it may grow: the relations from which the whole-machine rules follow. -/

namespace Sys2Proof.Machine

/-- The later state `t` has the configuration and the surroundings' fields of `s`, a counter no lower, and the streams of
`s` with something appended. -/
structure Extends (s t : State) : Prop where
  params : t.params = s.params
  writeTable : t.writeTable = s.writeTable
  readTable : t.readTable = s.readTable
  constructed : t.constructed = s.constructed
  inbox : t.inbox = s.inbox
  atBoundary : t.atBoundary = s.atBoundary
  stopFlag : t.stopFlag = s.stopFlag
  regionDue : t.regionDue = s.regionDue
  cycleNum : s.cycleNum ≤ t.cycleNum
  video : s.video <+: t.video
  diag : s.diag <+: t.diag

namespace Extends

theorem refl (s : State) : Extends s s :=
  ⟨rfl, rfl, rfl, rfl, rfl, rfl, rfl, rfl, Nat.le_refl _, List.prefix_refl _, List.prefix_refl _⟩

theorem trans {s t u : State} (h : Extends s t) (g : Extends t u) : Extends s u :=
  ⟨g.params.trans h.params, g.writeTable.trans h.writeTable, g.readTable.trans h.readTable,
    g.constructed.trans h.constructed, g.inbox.trans h.inbox, g.atBoundary.trans h.atBoundary,
    g.stopFlag.trans h.stopFlag, g.regionDue.trans h.regionDue, h.cycleNum.trans g.cycleNum, h.video.trans g.video, h.diag.trans g.diag⟩

/-- An update of fields that the relation does not speak of. -/
theorem quiet {s t : State} (h1 : t.params = s.params := by rfl) (h2 : t.writeTable = s.writeTable := by rfl)
    (h3 : t.readTable = s.readTable := by rfl) (h4 : t.constructed = s.constructed := by rfl)
    (h5 : t.inbox = s.inbox := by rfl) (h6 : t.atBoundary = s.atBoundary := by rfl)
    (h7 : t.stopFlag = s.stopFlag := by rfl) (h8 : t.cycleNum = s.cycleNum := by rfl)
    (h11 : t.regionDue = s.regionDue := by rfl)
    (h9 : t.video = s.video := by rfl) (h10 : t.diag = s.diag := by rfl) : Extends s t :=
  ⟨h1, h2, h3, h4, h5, h6, h7, h11, h8 ▸ Nat.le_refl _, h9 ▸ List.prefix_refl _, h10 ▸ List.prefix_refl _⟩

theorem report (d : DiagEvent) (s : State) : Extends s (s.report d) :=
  ⟨rfl, rfl, rfl, rfl, rfl, rfl, rfl, rfl, Nat.le_refl _, List.prefix_refl _, List.prefix_append _ _⟩

theorem emit (e : PixelEvent) (s : State) : Extends s (s.emit e) :=
  ⟨rfl, rfl, rfl, rfl, rfl, rfl, rfl, rfl, Nat.le_refl _, List.prefix_append _ _, List.prefix_refl _⟩

theorem raiseFatal (e : FatalEvent) (s : State) : Extends s (raiseFatal e s) :=
  (report (.fatal e) s).trans (quiet)

theorem orHalted {s : State} {f : State → State} (h : ∀ s, Extends s (f s)) : Extends s (s.orHalted f) :=
  orHalted_cases (fun _ => h s) fun _ _ => refl s

theorem applyHandler (r : RegId) (v : Byte) (s : State) : Extends s (applyHandler r v s) := by
  cases r with
  | vsync =>
    simp only [Machine.applyHandler, hVsync]
    split
    · exact quiet
    · exact raiseFatal _ _
  | vblank =>
    simp only [Machine.applyHandler, hVblank]
    split
    · exact quiet
    · exact raiseFatal _ _
  | wsync =>
    refine ⟨rfl, rfl, rfl, rfl, rfl, rfl, rfl, rfl, ?_, List.prefix_refl _, List.prefix_refl _⟩
    simp only [Machine.applyHandler, hWsync, State.setCycleNum_cycleNum, wsyncTarget]
    omega
  | colupf => exact quiet
  | colubk => exact quiet
  | ctrlpf => exact quiet
  | pf0 => exact quiet
  | pf1 => exact quiet
  | pf2 => exact quiet

theorem applyPending (s : State) : Extends s (applyPending s) := by
  simp only [Machine.applyPending]
  split
  · exact (applyHandler _ _ s).trans (orHalted fun _ => quiet)
  · exact refl s

theorem beamAdvance (s : State) : Extends s (beamAdvance s) := quiet

theorem vsyncCheck (s : State) : Extends s (vsyncCheck s) := by
  rcases vsyncCheck_cases s with h | h <;> rw [h]
  · exact refl s
  · exact raiseFatal _ s

theorem pixelEmit (s : State) : Extends s (pixelEmit s) := by
  simp only [Machine.pixelEmit]
  split
  · exact emit _ s
  · exact refl s

theorem emitAndCount (s : State) : Extends s (emitAndCount s) := (pixelEmit s).trans quiet

theorem chipCycle (s : State) : Extends s (chipCycle s) :=
  ((beamAdvance s).trans (vsyncCheck _)).trans (orHalted emitAndCount)

theorem hungCycle (s : State) : Extends s (hungCycle s) := (beamAdvance s).trans (emitAndCount _)

theorem runChipCycles (n : Nat) (s : State) : Extends s (runChipCycles n s) := by
  induction n generalizing s with
  | zero => exact refl s
  | succ n ih => exact (chipCycle s).trans (orHalted ih)

theorem catchUp (s : State) : Extends s (catchUp s) := by
  simp only [Machine.catchUp]
  split
  · exact quiet
  · exact runChipCycles _ s

theorem process (s : State) : Extends s (process s) := (applyPending s).trans (orHalted catchUp)

theorem busRead (addr : Nat) (s : State) : Extends s (busRead addr s) := by
  simp only [Machine.busRead]
  split
  · exact quiet
  · exact (report _ s).trans quiet

theorem busWrite (addr : Nat) (v : Byte) (s : State) : Extends s (busWrite addr v s) := by
  simp only [Machine.busWrite]
  split
  · exact quiet
  · exact report _ s

end Extends

/-- Every operation but NEW. -/
theorem Effect.extends {i : Instr} {s t : State} (h : Effect s i t) (hc : s.constructed = true) : Extends s t := by
  cases h with
  | new a b hc' _ => rw [hc'] at hc; cases hc
  | query _ a _ _ => exact .quiet
  | read addr _ => exact .busRead addr s
  | write _ addr v _ _ => exact .busWrite addr v s
  | process _ _ => exact .process s
  | mirrorRecompute _ => exact .quiet
  | applyPending _ => exact .applyPending s
  | catchUp _ _ => exact .catchUp s
  | chipCycle _ _ => exact .chipCycle s
  | beamAdvance _ _ => exact .beamAdvance s
  | vsyncCheck _ _ => exact .vsyncCheck s
  | pixelEmit _ _ => exact .pixelEmit s

/-- The chip part of `t` either raised nothing and reported nothing, or raised one condition and reported it once. -/
def Raises (s t : State) : Prop :=
  (t.fatal = s.fatal ∧ t.diag = s.diag) ∨
    ∃ e, e ≠ .playfieldAccumulation ∧ t.fatal = some e ∧ t.diag = s.diag ++ [.fatal e]

namespace Raises

theorem quiet {s t : State} (h1 : t.fatal = s.fatal := by rfl) (h2 : t.diag = s.diag := by rfl) : Raises s t :=
  .inl ⟨h1, h2⟩

theorem raiseFatal {e : FatalEvent} (he : e ≠ .playfieldAccumulation) (s : State) :
    Raises s (raiseFatal e s) := .inr ⟨e, he, rfl, rfl⟩

/-- The rest of an operation after a part that may have raised. -/
theorem orHalted {s t : State} {f : State → State} (hs : s.fatal = none) (h : Raises s t)
    (hf : ∀ u, u.fatal = none → Raises u (f u)) : Raises s (t.orHalted f) := by
  rcases h with ⟨h1, h2⟩ | ⟨e, he, h1, h2⟩
  · rw [hs] at h1
    rw [orHalted_none h1]
    rcases hf t h1 with ⟨g1, g2⟩ | ⟨e, he, g1, g2⟩
    · exact .inl ⟨by rw [g1, h1, hs], by rw [g2, h2]⟩
    · exact .inr ⟨e, he, g1, by rw [g2, h2]⟩
  · rw [orHalted_some h1]
    exact .inr ⟨e, he, h1, h2⟩

theorem applyHandler (r : RegId) (v : Byte) (s : State) : Raises s (applyHandler r v s) := by
  cases r with
  | vsync =>
    simp only [Machine.applyHandler, hVsync]
    split
    · exact quiet
    · exact raiseFatal (by simp) _
  | vblank =>
    simp only [Machine.applyHandler, hVblank]
    split
    · exact quiet
    · exact raiseFatal (by simp) _
  | wsync => exact quiet
  | colupf => exact quiet
  | colubk => exact quiet
  | ctrlpf => exact quiet
  | pf0 => exact quiet
  | pf1 => exact quiet
  | pf2 => exact quiet

theorem applyPending {s : State} (hs : s.fatal = none) : Raises s (applyPending s) := by
  simp only [Machine.applyPending]
  split
  · exact orHalted hs (applyHandler _ _ s) fun _ _ => quiet
  · exact quiet

theorem vsyncCheck (s : State) : Raises s (vsyncCheck s) := by
  rcases vsyncCheck_cases s with h | h <;> rw [h]
  · exact quiet
  · exact raiseFatal (by simp only [violation]; split <;> simp) s

theorem pixelEmit (s : State) : Raises s (pixelEmit s) := by
  rw [pixelEmit_eq]; exact quiet

theorem chipCycle {s : State} (hs : s.fatal = none) : Raises s (chipCycle s) :=
  orHalted (s := s) hs (vsyncCheck (beamAdvance s)) fun u _ => by
    simp only [emitAndCount, pixelEmit_eq]; exact quiet

/-- A chip cycle of a hang raises and reports nothing (60_exceptions.md R160). -/
theorem hungCycle (s : State) : (hungCycle s).fatal = s.fatal ∧ (hungCycle s).diag = s.diag := by
  simp only [Machine.hungCycle, emitAndCount, pixelEmit_eq]; exact ⟨rfl, rfl⟩

theorem runChipCycles (n : Nat) {s : State} (hs : s.fatal = none) : Raises s (runChipCycles n s) := by
  induction n generalizing s with
  | zero => exact quiet
  | succ n ih => exact orHalted hs (chipCycle hs) fun _ hu => ih hu

theorem catchUp {s : State} (hs : s.fatal = none) : Raises s (catchUp s) := by
  simp only [Machine.catchUp]
  split
  · exact quiet
  · exact runChipCycles _ hs

theorem process {s : State} (hs : s.fatal = none) : Raises s (process s) :=
  orHalted hs (applyPending hs) fun _ hu => catchUp hu

end Raises

end Sys2Proof.Machine
end

