-- ==== Sys2Proof/Laws/PerInstr.lean ====
section
/-! SUPPORT. The per-instruction family: which requests are encoded words (30_encoding.md R83). -/

namespace Sys2Proof.Laws.RequestForm

/-- The operations of formats W and R are bus transactions, and no other operation is an encoded word
(30_encoding.md R71 to R73, R83). -/
def isBusRequest : Request → Bool
  | .bus _ _ => true
  | .call _ _ => false
  | .part _ _ => false

/-- The operations of formats W and R (30_encoding.md R70). -/
def hasBusFormat : Instr → Bool
  | .wVsync _ => true
  | .wVblank _ => true
  | .wWsync _ => true
  | .wColupf _ => true
  | .wColubk _ => true
  | .wCtrlpf _ => true
  | .wPf0 _ => true
  | .wPf1 _ => true
  | .wPf2 _ => true
  | .busWrite _ _ => true
  | .busRead _ => true
  | .new _ _ => false
  | .contains _ => false
  | .getBusRegion => false
  | .process _ => false
  | .lookup _ _ => false
  | .mirrorRecompute => false
  | .applyPending => false
  | .catchUp => false
  | .chipCycle => false
  | .beamAdvance => false
  | .vsyncCheck => false
  | .pixelEmit => false

/-- Encoding keeps the format of the operation, for every parameter record. -/
def Statement (i : Instr) : Prop := ∀ p : Params, isBusRequest (encode p i) = hasBusFormat i

theorem wVsync (value : Byte) : Statement (.wVsync value) := fun _ => rfl
theorem wVblank (value : Byte) : Statement (.wVblank value) := fun _ => rfl
theorem wWsync (value : Byte) : Statement (.wWsync value) := fun _ => rfl
theorem wColupf (value : Byte) : Statement (.wColupf value) := fun _ => rfl
theorem wColubk (value : Byte) : Statement (.wColubk value) := fun _ => rfl
theorem wCtrlpf (value : Byte) : Statement (.wCtrlpf value) := fun _ => rfl
theorem wPf0 (value : Byte) : Statement (.wPf0 value) := fun _ => rfl
theorem wPf1 (value : Byte) : Statement (.wPf1 value) := fun _ => rfl
theorem wPf2 (value : Byte) : Statement (.wPf2 value) := fun _ => rfl
theorem busWrite (addr : Nat) (value : Byte) : Statement (.busWrite addr value) := fun _ => rfl
theorem busRead (addr : Nat) : Statement (.busRead addr) := fun _ => rfl
theorem new (startAddr endAddr : Nat) : Statement (.new startAddr endAddr) := fun _ => rfl
theorem contains (addr : Nat) : Statement (.contains addr) := fun _ => rfl
theorem getBusRegion : Statement .getBusRegion := fun _ => rfl
theorem process (count : Nat) : Statement (.process count) := fun _ => rfl
theorem lookup (table : Table) (addr : Nat) : Statement (.lookup table addr) := fun _ => rfl
theorem mirrorRecompute : Statement .mirrorRecompute := fun _ => rfl
theorem applyPending : Statement .applyPending := fun _ => rfl
theorem catchUp : Statement .catchUp := fun _ => rfl
theorem chipCycle : Statement .chipCycle := fun _ => rfl
theorem beamAdvance : Statement .beamAdvance := fun _ => rfl
theorem vsyncCheck : Statement .vsyncCheck := fun _ => rfl
theorem pixelEmit : Statement .pixelEmit := fun _ => rfl

end Sys2Proof.Laws.RequestForm
end

