-- ==== Sys2Proof/Laws/Registers.lean ====
section
/-! SUPPORT. What the register handlers do to the mask, to the fatal latch and to everything else
(41_register_handlers.md). -/

namespace Sys2Proof.Machine

/-! ## The mask -/

/-- Every bit after a recomputation (R109, R110). -/
theorem getLsbD_mirrorRecompute (s : State) (i : Nat) (hi : i < 20) :
    (mirrorRecompute s).playfieldMask.getLsbD i = s.playfieldMask.getLsbD i ∧
      (mirrorRecompute s).playfieldMask.getLsbD (20 + i) =
        if s.playfieldMirrored then s.playfieldMask.getLsbD (19 - i) else s.playfieldMask.getLsbD i := by
  simp only [mirrorRecompute, State.setPlayfieldMask_playfieldMask]
  constructor
  · rw [getLsbD_setSlice _ _ _ _ _ (by omega), if_neg (by omega)]
  · rw [getLsbD_setSlice _ _ _ _ _ (by omega), if_pos (by omega), Nat.add_sub_cancel_left,
      getLsbD_upper _ _ _ hi, getLsbD_lowHalf, getLsbD_lowHalf]
    simp [hi, show 19 - i < 20 by omega]

/-- A recomputation establishes the mask invariant (10_state.md R40). -/
theorem mirrorRecompute_extended (s : State) : MaskExtended (mirrorRecompute s) := by
  simp [MaskExtended, mirrorRecompute]

/-- A recomputation changes nothing where the invariant holds (R112). -/
theorem mirrorRecompute_of_extended {s : State} (h : MaskExtended s) : mirrorRecompute s = s := by
  have : setSlice s.playfieldMask 20 20 (upper (lowHalf s.playfieldMask) s.playfieldMirrored) = s.playfieldMask :=
    mask_ext (by simp) (by simp [h])
  rw [mirrorRecompute, this]
  rfl

/-- Every handler keeps the mask invariant (10_state.md R40). -/
theorem applyHandler_extended {s : State} (h : MaskExtended s) (r : RegId) (v : Byte) :
    MaskExtended (applyHandler r v s) := by
  cases r with
  | vsync => simp only [applyHandler, hVsync]; split <;> exact h
  | vblank => simp only [applyHandler, hVblank]; split <;> exact h
  | wsync => exact h
  | colupf => exact h
  | colubk => exact h
  | ctrlpf => exact mirrorRecompute_extended _
  | pf0 => exact mirrorRecompute_extended _
  | pf1 => exact mirrorRecompute_extended _
  | pf2 => exact mirrorRecompute_extended _

/-! ## The fatal latch -/

theorem vsyncLegal_iff {v : Byte} : vsyncLegal v = true ↔ v = 0x00#8 ∨ v = 0x02#8 := by
  simp [vsyncLegal]

theorem vblankLegal_iff {v : Byte} : vblankLegal v = true ↔ v &&& 0x3C#8 = 0#8 := by
  simp [vblankLegal]

/-- A legal value raises nothing (60_exceptions.md R156). -/
theorem applyHandler_legal {r : RegId} {v : Byte} (h : registerLegal r v) (s : State) :
    (applyHandler r v s).fatal = s.fatal := by
  cases r with
  | vsync => simp only [applyHandler, hVsync, vsyncLegal_iff.mpr h, if_true]; rfl
  | vblank => simp only [applyHandler, hVblank, vblankLegal_iff.mpr h, if_true]; rfl
  | wsync => rfl
  | colupf => rfl
  | colubk => rfl
  | ctrlpf => rfl
  | pf0 => rfl
  | pf1 => rfl
  | pf2 => rfl

/-- An illegal value raises InvalidRegisterValue and changes nothing else (60_exceptions.md R156). -/
theorem applyHandler_illegal {r : RegId} {v : Byte} (h : ¬ registerLegal r v) (s : State) :
    applyHandler r v s = raiseFatal (.invalidRegisterValue r v) s := by
  cases r with
  | vsync =>
    have : vsyncLegal v = false := by rw [Bool.eq_false_iff]; exact fun e => h (vsyncLegal_iff.mp e)
    simp [applyHandler, hVsync, this]
  | vblank =>
    have : vblankLegal v = false := by rw [Bool.eq_false_iff]; exact fun e => h (vblankLegal_iff.mp e)
    simp [applyHandler, hVblank, this]
  | wsync => exact absurd trivial h
  | colupf => exact absurd trivial h
  | colubk => exact absurd trivial h
  | ctrlpf => exact absurd trivial h
  | pf0 => exact absurd trivial h
  | pf1 => exact absurd trivial h
  | pf2 => exact absurd trivial h

/-- Everything a handler never touches (R100). -/
theorem applyHandler_frame (r : RegId) (v : Byte) (s : State) :
    (applyHandler r v s).chipCycleNum = s.chipCycleNum ∧ (applyHandler r v s).gunX = s.gunX ∧
      (applyHandler r v s).gunY = s.gunY ∧ (applyHandler r v s).pendingWrite = s.pendingWrite ∧
      (applyHandler r v s).video = s.video ∧ (applyHandler r v s).params = s.params ∧
      (applyHandler r v s).hung = s.hung := by
  cases r with
  | vsync => simp only [applyHandler, hVsync]; split <;> exact ⟨rfl, rfl, rfl, rfl, rfl, rfl, rfl⟩
  | vblank => simp only [applyHandler, hVblank]; split <;> exact ⟨rfl, rfl, rfl, rfl, rfl, rfl, rfl⟩
  | wsync => exact ⟨rfl, rfl, rfl, rfl, rfl, rfl, rfl⟩
  | colupf => exact ⟨rfl, rfl, rfl, rfl, rfl, rfl, rfl⟩
  | colubk => exact ⟨rfl, rfl, rfl, rfl, rfl, rfl, rfl⟩
  | ctrlpf => exact ⟨rfl, rfl, rfl, rfl, rfl, rfl, rfl⟩
  | pf0 => exact ⟨rfl, rfl, rfl, rfl, rfl, rfl, rfl⟩
  | pf1 => exact ⟨rfl, rfl, rfl, rfl, rfl, rfl, rfl⟩
  | pf2 => exact ⟨rfl, rfl, rfl, rfl, rfl, rfl, rfl⟩

/-- APPLY_PENDING on a legal pair (42_cycle_synchronizer.md R121). -/
theorem applyPending_legal {s : State} {r : RegId} {v : Byte} (hf : s.fatal = none)
    (hp : s.pendingWrite = some (r, v)) (h : registerLegal r v) :
    applyPending s = (applyHandler r v s).setPendingWrite none := by
  simp only [applyPending, hp]
  exact orHalted_none ((applyHandler_legal h s).trans hf) _

/-- APPLY_PENDING on an illegal pair: the pair stays (42_cycle_synchronizer.md R121). -/
theorem applyPending_illegal {s : State} {r : RegId} {v : Byte} (hp : s.pendingWrite = some (r, v))
    (h : ¬ registerLegal r v) : applyPending s = raiseFatal (.invalidRegisterValue r v) s := by
  simp only [applyPending, hp, applyHandler_illegal h]
  exact orHalted_some (raiseFatal_fatal _ _) _

theorem applyPending_none {s : State} (hp : s.pendingWrite = none) : applyPending s = s := by
  simp only [applyPending, hp]

/-- WSYNC lands HBLANK_CPU_CYCLES after the next line boundary (42_cycle_synchronizer.md R125). -/
theorem wsyncTarget_eq {p : Params} (h : 1 ≤ p.scanlineCpuCycles) (c : Nat) :
    wsyncTarget p c = p.scanlineCpuCycles * (c / p.scanlineCpuCycles + 1) + p.hblankCpuCycles := by
  have h1 := Nat.div_add_mod c p.scanlineCpuCycles
  have h2 := Nat.mod_lt c (show 0 < p.scanlineCpuCycles by omega)
  rw [wsyncTarget, Nat.mul_succ]
  omega

end Sys2Proof.Machine
end

