-- ==== Sys2Proof/Laws/Sync.lean ====
section
/-! SUPPORT. What applying a pending write and running chip cycles keep, and how the chip count and the beam move together
(42_cycle_synchronizer.md R120 to R123, 10_state.md R38, R39). -/

namespace Sys2Proof.Machine

/-! ## The meaning of the synchronizer's operations when they have a step -/

theorem exec_applyPending {s : State} (h : Live s) : exec .applyPending s = .next (applyPending s) := by
  rw [exec, execApplyPending, whenLive_eq h]

theorem exec_catchUp {s : State} (h : Live s) (hr : OnRaster s) : exec .catchUp s = .next (catchUp s) := by
  rw [exec, execCatchUp, whenLive_eq h, whenOnRaster_eq hr]

theorem exec_chipCycle {s : State} (h : Live s) (hr : OnRaster s) : exec .chipCycle s = .next (chipCycle s) := by
  rw [exec, execChipCycle, whenLive_eq h, whenOnRaster_eq hr]

theorem exec_process {s : State} (h : Idle s) (hr : OnRaster s) :
    exec (.process s.cycleNum) s = .next (process s) := by
  rw [exec, execProcess, whenIdle_eq h, if_pos rfl, whenOnRaster_eq hr]

/-! ## What chip cycles keep -/

/-- `t` has the registers, the pending slot, the counter and the parameters of `s`: all that chip cycles only read
(43_beam_model.md R135 to R139). -/
structure KeepsRegisters (s t : State) : Prop where
  vsyncMode : t.vsyncMode = s.vsyncMode
  vblankMode : t.vblankMode = s.vblankMode
  playfieldMask : t.playfieldMask = s.playfieldMask
  playfieldMirrored : t.playfieldMirrored = s.playfieldMirrored
  playfieldColor : t.playfieldColor = s.playfieldColor
  backgroundColor : t.backgroundColor = s.backgroundColor
  pendingWrite : t.pendingWrite = s.pendingWrite
  cycleNum : t.cycleNum = s.cycleNum
  params : t.params = s.params

namespace KeepsRegisters

theorem refl (s : State) : KeepsRegisters s s := ⟨rfl, rfl, rfl, rfl, rfl, rfl, rfl, rfl, rfl⟩

theorem trans {s t u : State} (h : KeepsRegisters s t) (g : KeepsRegisters t u) : KeepsRegisters s u :=
  ⟨g.1.trans h.1, g.2.trans h.2, g.3.trans h.3, g.4.trans h.4, g.5.trans h.5, g.6.trans h.6, g.7.trans h.7,
    g.8.trans h.8, g.9.trans h.9⟩

theorem orHalted {s t : State} {f : State → State} (h : KeepsRegisters s t) (hf : ∀ u, KeepsRegisters u (f u)) :
    KeepsRegisters s (t.orHalted f) :=
  orHalted_cases (fun _ => h.trans (hf t)) fun _ _ => h

theorem beamAdvance (s : State) : KeepsRegisters s (beamAdvance s) :=
  ⟨rfl, rfl, rfl, rfl, rfl, rfl, rfl, rfl, rfl⟩

theorem vsyncCheck (s : State) : KeepsRegisters s (vsyncCheck s) := by
  rcases vsyncCheck_cases s with h | h <;> rw [h] <;> exact ⟨rfl, rfl, rfl, rfl, rfl, rfl, rfl, rfl, rfl⟩

theorem pixelEmit (s : State) : KeepsRegisters s (pixelEmit s) := by
  rw [pixelEmit_eq]; exact ⟨rfl, rfl, rfl, rfl, rfl, rfl, rfl, rfl, rfl⟩

theorem emitAndCount (s : State) : KeepsRegisters s (emitAndCount s) := (pixelEmit s).trans ⟨rfl, rfl, rfl, rfl, rfl, rfl, rfl, rfl, rfl⟩

theorem chipCycle (s : State) : KeepsRegisters s (chipCycle s) :=
  ((beamAdvance s).trans (vsyncCheck _)).orHalted emitAndCount

theorem hungCycle (s : State) : KeepsRegisters s (hungCycle s) := (beamAdvance s).trans (emitAndCount _)

theorem runChipCycles (n : Nat) (s : State) : KeepsRegisters s (runChipCycles n s) := by
  induction n generalizing s with
  | zero => exact refl s
  | succ n ih => exact (chipCycle s).orHalted ih

theorem catchUp (s : State) : KeepsRegisters s (catchUp s) := by
  simp only [Machine.catchUp]
  split
  · exact ⟨rfl, rfl, rfl, rfl, rfl, rfl, rfl, rfl, rfl⟩
  · exact runChipCycles _ s

/-- Step 2 of PROCESS, where it runs (R120). -/
theorem process (s : State) : KeepsRegisters (applyPending s) (process s) := (refl _).orHalted catchUp

end KeepsRegisters

/-- No chip cycle starts or ends a hang. -/
theorem chipCycle_hung (s : State) : (chipCycle s).hung = s.hung := by
  have hv : (vsyncCheck (beamAdvance s)).hung = s.hung := by
    rcases vsyncCheck_cases (beamAdvance s) with h | h <;> rw [h] <;> rfl
  exact orHalted_cases (P := fun x => x.hung = s.hung) (fun _ => by simp only [emitAndCount, pixelEmit_eq]; exact hv)
    fun _ _ => hv

theorem runChipCycles_hung (n : Nat) (s : State) : (runChipCycles n s).hung = s.hung := by
  induction n generalizing s with
  | zero => rfl
  | succ n ih =>
    exact orHalted_cases (P := fun x => x.hung = s.hung) (fun _ => (ih _).trans (chipCycle_hung s))
      fun _ _ => chipCycle_hung s

/-- A chip cycle of a hang goes one position ahead, on whatever line (60_exceptions.md R160). -/
theorem hungCycle_eq {s : State} (hr : OnRaster s) : hungCycle s = s.ahead 1 := by
  rw [hungCycle, beamAdvance_eq hr, emitAndCount, pixelEmit_eq]
  simp only [State.ahead, pixelsAhead, List.range_one, List.filterMap_cons, List.filterMap_nil, Nat.add_zero]
  simp only [pixelAt, State.setChipCycleNum]
  cases pixelValue (s.atIndex (beamIndex s + 1)) <;> rfl

/-! ## What applying a pending write keeps -/

/-- Everything APPLY_PENDING never touches (R121). -/
theorem applyPending_frame (s : State) :
    (applyPending s).chipCycleNum = s.chipCycleNum ∧ (applyPending s).gunX = s.gunX ∧
      (applyPending s).gunY = s.gunY ∧ (applyPending s).video = s.video ∧ (applyPending s).params = s.params ∧
      (applyPending s).hung = s.hung := by
  cases hp : s.pendingWrite with
  | none => rw [applyPending_none hp]; exact ⟨rfl, rfl, rfl, rfl, rfl, rfl⟩
  | some w =>
    have g := applyHandler_frame w.1 w.2 s
    simp only [applyPending, hp]
    refine orHalted_cases (P := fun x => x.chipCycleNum = s.chipCycleNum ∧ x.gunX = s.gunX ∧ x.gunY = s.gunY ∧
      x.video = s.video ∧ x.params = s.params ∧ x.hung = s.hung) (fun _ => ?_) fun _ _ => ?_ <;>
    exact ⟨g.1, g.2.1, g.2.2.1, g.2.2.2.2.1, g.2.2.2.2.2.1, g.2.2.2.2.2.2⟩

/-- The slot is empty after an application that raised nothing (R121). -/
theorem applyPending_clears {s : State} (hs : s.fatal = none) (h : (applyPending s).fatal = none) :
    (applyPending s).pendingWrite = none := by
  cases hp : s.pendingWrite with
  | none => rw [applyPending_none hp]; exact hp
  | some w =>
    by_cases hl : registerLegal w.1 w.2
    · rw [applyPending_legal hs (r := w.1) (v := w.2) hp hl]; rfl
    · rw [applyPending_illegal (r := w.1) (v := w.2) hp hl] at h; simp at h

/-- An application never leaves a chip cycle uncounted. -/
theorem applyPending_uncounted {s : State} (hs : s.fatal = none) : uncounted (applyPending s).fatal = 0 := by
  cases hp : s.pendingWrite with
  | none => rw [applyPending_none hp, hs]; rfl
  | some w =>
    by_cases hl : registerLegal w.1 w.2
    · rw [applyPending_legal hs (r := w.1) (v := w.2) hp hl, State.setPendingWrite_fatal, applyHandler_legal hl, hs]
      rfl
    · rw [applyPending_illegal (r := w.1) (v := w.2) hp hl]; rfl

/-- Each register is touched by an application of its own pair only (R100). -/
theorem applyPending_registers (s : State) :
    ((∀ v, s.pendingWrite ≠ some (.vsync, v)) → (applyPending s).vsyncMode = s.vsyncMode) ∧
    ((∀ v, s.pendingWrite ≠ some (.vblank, v)) → (applyPending s).vblankMode = s.vblankMode) ∧
    ((∀ v, s.pendingWrite ≠ some (.colupf, v)) → (applyPending s).playfieldColor = s.playfieldColor) ∧
    ((∀ v, s.pendingWrite ≠ some (.colubk, v)) → (applyPending s).backgroundColor = s.backgroundColor) ∧
    ((∀ v, s.pendingWrite ≠ some (.ctrlpf, v)) → (applyPending s).playfieldMirrored = s.playfieldMirrored) ∧
    ((∀ v, s.pendingWrite ≠ some (.wsync, v)) → (applyPending s).cycleNum = s.cycleNum) ∧
    ((∀ r v, s.pendingWrite = some (r, v) → r ≠ .pf0 ∧ r ≠ .pf1 ∧ r ≠ .pf2) →
      lowHalf (applyPending s).playfieldMask = lowHalf s.playfieldMask) := by
  cases hp : s.pendingWrite with
  | none => simp [applyPending_none hp]
  | some w =>
    obtain ⟨r, v⟩ := w
    have clear : ∀ u : State, (u.orHalted (State.setPendingWrite none)).vsyncMode = u.vsyncMode ∧
        (u.orHalted (State.setPendingWrite none)).vblankMode = u.vblankMode ∧
        (u.orHalted (State.setPendingWrite none)).playfieldColor = u.playfieldColor ∧
        (u.orHalted (State.setPendingWrite none)).backgroundColor = u.backgroundColor ∧
        (u.orHalted (State.setPendingWrite none)).playfieldMirrored = u.playfieldMirrored ∧
        (u.orHalted (State.setPendingWrite none)).cycleNum = u.cycleNum ∧
        (u.orHalted (State.setPendingWrite none)).playfieldMask = u.playfieldMask := by
      intro u
      simp only [State.orHalted]
      split <;> simp
    obtain ⟨c1, c2, c3, c4, c5, c6, c7⟩ := clear (applyHandler r v s)
    simp only [applyPending, hp, c1, c2, c3, c4, c5, c6, c7]
    clear clear c1 c2 c3 c4 c5 c6 c7
    cases r with
    | vsync => simp only [applyHandler, hVsync]; split <;> simp [raiseFatal]
    | vblank => simp only [applyHandler, hVblank]; split <;> simp [raiseFatal]
    | wsync => simp [applyHandler, hWsync]
    | colupf => simp [applyHandler, hColupf]
    | colubk => simp [applyHandler, hColubk]
    | ctrlpf => simp [applyHandler, hCtrlpf, mirrorRecompute]
    | pf0 => simp [applyHandler, hPf0, mirrorRecompute]
    | pf1 => simp [applyHandler, hPf1, mirrorRecompute]
    | pf2 => simp [applyHandler, hPf2, mirrorRecompute]

/-- The whole mask is touched by the four registers that call the mirror recomputation only (10_state.md R25). -/
theorem applyPending_mask {s : State}
    (h : ∀ r v, s.pendingWrite = some (r, v) → r ≠ .ctrlpf ∧ r ≠ .pf0 ∧ r ≠ .pf1 ∧ r ≠ .pf2) :
    (applyPending s).playfieldMask = s.playfieldMask := by
  cases hp : s.pendingWrite with
  | none => rw [applyPending_none hp]
  | some w =>
    obtain ⟨r, v⟩ := w
    obtain ⟨n1, n2, n3, n4⟩ := h r v hp
    have hm : (applyHandler r v s).playfieldMask = s.playfieldMask := by
      cases r with
      | vsync => simp only [applyHandler, hVsync]; split <;> rfl
      | vblank => simp only [applyHandler, hVblank]; split <;> rfl
      | wsync => rfl
      | colupf => rfl
      | colubk => rfl
      | ctrlpf => exact absurd rfl n1
      | pf0 => exact absurd rfl n2
      | pf1 => exact absurd rfl n3
      | pf2 => exact absurd rfl n4
    simp only [applyPending, hp]
    exact orHalted_cases (P := fun x => x.playfieldMask = s.playfieldMask) (fun _ => hm) fun _ _ => hm

/-! ## The chip count and the beam -/

/-- One chip cycle keeps the beam on the raster and at the position of the count (10_state.md R39); it counts itself unless
it halts. -/
theorem chipCycle_tracks {s : State} (hv : s.params.valid = true) (hr : OnRaster s) (hf : s.fatal = none)
    (hb : BeamTracksCycles s) :
    OnRaster (chipCycle s) ∧ BeamTracksCycles (chipCycle s) ∧
      ((chipCycle s).fatal = none → (chipCycle s).chipCycleNum = s.chipCycleNum + 1) ∧
      ((chipCycle s).fatal ≠ none → (chipCycle s).chipCycleNum = s.chipCycleNum) := by
  have hidx : (beamIndex s + 1) % s.params.frameLength =
      (s.chipCycleNum + 1 - s.params.cycleRatio * s.params.cycleInit + s.params.initBeam)
        % s.params.frameLength := by
    have h2 := hb.2
    rw [hf] at h2
    simp only [uncounted, Nat.add_zero] at h2
    rw [h2, Nat.mod_add_mod]
    congr 1
    have := hb.1
    omega
  cases hl : lineLegal s.params s.vsyncMode (yOf s.params (beamIndex s + 1)) with
  | true =>
    rw [chipCycle_legal hr hf hl]
    refine ⟨ahead_onRaster hv 1, ⟨by simp only [State.ahead]; have := hb.1; omega, ?_⟩, fun _ => rfl,
      fun h => absurd hf h⟩
    rw [beamIndex_ahead, hidx]
    simp only [State.ahead, hf, uncounted, Nat.add_zero]
  | false =>
    rw [chipCycle_illegal hr hl]
    refine ⟨⟨xOf_lt (lineLength_pos hv) _, yOf_lt (linesPerFrame_pos hv) _⟩, ⟨hb.1, ?_⟩,
      fun h => by simp at h, fun _ => rfl⟩
    have hi : beamIndex (raiseFatal (violation (s.atIndex (beamIndex s + 1))) (s.atIndex (beamIndex s + 1))) =
        (beamIndex s + 1) % s.params.frameLength := index_xOf_yOf _
    have hu : uncounted
        (raiseFatal (violation (s.atIndex (beamIndex s + 1))) (s.atIndex (beamIndex s + 1))).fatal = 1 := by
      simp only [raiseFatal_fatal, violation]
      split <;> rfl
    rw [hi, hu, hidx]
    rfl

/-- Many chip cycles: the same, and they count no more than themselves. -/
theorem runChipCycles_tracks (n : Nat) {s : State} (hv : s.params.valid = true) (hr : OnRaster s)
    (hf : s.fatal = none) (hb : BeamTracksCycles s) :
    OnRaster (runChipCycles n s) ∧ BeamTracksCycles (runChipCycles n s) ∧
      ((runChipCycles n s).fatal = none → (runChipCycles n s).chipCycleNum = s.chipCycleNum + n) ∧
      (runChipCycles n s).chipCycleNum ≤ s.chipCycleNum + n := by
  induction n generalizing s with
  | zero => exact ⟨hr, hb, fun _ => rfl, Nat.le_refl _⟩
  | succ n ih =>
    obtain ⟨h1, h2, h3, h4⟩ := chipCycle_tracks hv hr hf hb
    rw [runChipCycles]
    cases e : (chipCycle s).fatal with
    | none =>
      rw [orHalted_none e]
      obtain ⟨g1, g2, g3, g4⟩ := ih (s := chipCycle s) (by rw [(KeepsRegisters.chipCycle s).params]; exact hv) h1 e h2
      have := h3 e
      exact ⟨g1, g2, fun h => by rw [g3 h]; omega, by omega⟩
    | some x =>
      rw [orHalted_some e]
      have := h4 (by rw [e]; simp)
      exact ⟨h1, h2, fun h => absurd (e.symm.trans h) (by simp), by omega⟩

/-- Off the invariant too, a catch-up that halts nothing counts its chip cycles (R122). -/
theorem runChipCycles_count (n : Nat) {s : State} (h : (runChipCycles n s).fatal = none) :
    (runChipCycles n s).chipCycleNum = s.chipCycleNum + n := by
  induction n generalizing s with
  | zero => rfl
  | succ n ih =>
    rw [runChipCycles] at h ⊢
    cases e : (chipCycle s).fatal with
    | none =>
      rw [orHalted_none e] at h ⊢
      have one : (chipCycle s).chipCycleNum = s.chipCycleNum + 1 := by
        rw [chipCycle] at e ⊢
        have hv : (vsyncCheck (beamAdvance s)).chipCycleNum = s.chipCycleNum := by
          rcases vsyncCheck_cases (beamAdvance s) with hh | hh <;> rw [hh] <;> rfl
        cases e2 : (vsyncCheck (beamAdvance s)).fatal with
        | none => rw [orHalted_none e2]; simp only [emitAndCount, State.setChipCycleNum_chipCycleNum, hv]
        | some x => rw [orHalted_some e2, e2] at e; cases e
      rw [ih h, one]
      omega
    | some x => rw [orHalted_some e, e] at h; cases h

/-- The target of a catch-up is fixed while it runs (R123). -/
theorem KeepsRegisters.target {s t : State} (h : KeepsRegisters s t) : t.target = s.target := by
  rw [State.target, State.target, h.params, h.cycleNum]

end Sys2Proof.Machine
end

