-- ==== Sys2Proof/Tests/Slice0.lean ====
section
/-! SUPPORT. Tests: ill-formed terms, words written out from 30_encoding.md, single operations with the results of
95_test_vectors.md, and for every statement with hypotheses a concrete state that meets them. -/

namespace Sys2Proof.Tests

open Sys2Proof Sys2Proof.Machine

/-! ## Helpers -/

/-- The next state of an outcome, if it is one. -/
def nextOf : Result → Option State
  | .next t => some t
  | .fault _ => none
  | .refused _ => none

/-- A next state with a property that was computed. -/
theorem next_with {o : Result} {q : State → Bool} (h : (nextOf o).any q = true) : ∃ t, o = .next t ∧ q t = true := by
  cases o with
  | next t => exact ⟨t, rfl, by simpa [nextOf] using h⟩
  | fault _ => cases h
  | refused _ => cases h

/-- A next state, by computation. -/
theorem next_exists {o : Result} (h : (nextOf o).isSome = true) : ∃ t, o = .next t := by
  cases o with
  | next t => exact ⟨t, rfl⟩
  | fault _ => cases h
  | refused _ => cases h

/-- Whether an operation answers a next state with a property. -/
def gives (i : Instr) (s : State) (q : State → Bool) : Bool := (nextOf (exec i s)).any q

/-- The constructed state with the counter at `cyc`, everything caught up, the beam at `(x, y)`. -/
def at' (cyc x y : Nat) : State := { State.reset with cycleNum := cyc, chipCycleNum := 3 * cyc, gunX := x, gunY := y }

/-- The constructed state with a pending pair. -/
def pending (r : RegId) (v : Byte) : State := { State.reset with pendingWrite := some (r, v) }

/-- The mask of PF0 $A0, PF1 $35, PF2 $C1 (vector H17). -/
def h17 : State := { State.reset with playfieldMask := 0xC135AC135A#40 }

/-- A chip whose READ_TABLE has one handler, number 7 at offset 0x0D. -/
def withHandler : Params := { Config.pDefault with readHandlers := [(0x0D, 7)] }

/-- The chip of those parameters. -/
def readable : State := construct withHandler (State.beforeNew withHandler)

/-- The latch of vector E2. -/
def halted : State := { State.reset with fatal := some (.invalidRegisterValue .vsync 0x01#8) }

/-! ## Well-formedness refuses each ill-formed term -/

theorem smoke_busWrite_wide_address : wellFormed Config.pDefault (.busWrite 0x10000 0x00#8) = false := by decide
theorem smoke_busWrite_register_address : wellFormed Config.pDefault (.busWrite 0x0009 0x00#8) = false := by decide
theorem smoke_busWrite_good : wellFormed Config.pDefault (.busWrite 0x0003 0x00#8) = true := by decide
theorem smoke_busRead_wide_address : wellFormed Config.pDefault (.busRead 0x10000) = false := by decide
theorem smoke_new_wide_start : wellFormed Config.pDefault (.new 0x10000 0x10000) = false := by decide
theorem smoke_new_wide_end : wellFormed Config.pDefault (.new 0x0000 0x10001) = false := by decide
theorem smoke_new_good : wellFormed Config.pDefault (.new 0xFFF0 0x10000) = true := by decide
theorem smoke_contains_wide_address : wellFormed Config.pDefault (.contains 0x10000) = false := by decide
theorem smoke_lookup_wide_address : wellFormed Config.pDefault (.lookup .write 0x10000) = false := by decide

/-! ## Words: the value byte, then the sixteen address bits (30_encoding.md R71, R83) -/

theorem test_decode_wVsync : decodeTableWord 24 0b00000010_0000000000000000 = some (.wVsync 0x02#8) := by decide
theorem test_decode_wVblank : decodeTableWord 24 0b01000010_0000000000000001 = some (.wVblank 0x42#8) := by decide
theorem test_decode_wWsync : decodeTableWord 24 0b11111111_0000000000000010 = some (.wWsync 0xFF#8) := by decide
theorem test_decode_wColupf : decodeTableWord 24 0b00011110_0000000000001000 = some (.wColupf 0x1E#8) := by decide
theorem test_decode_wColubk : decodeTableWord 24 0b10000100_0000000000001001 = some (.wColubk 0x84#8) := by decide
theorem test_decode_wCtrlpf : decodeTableWord 24 0b00000001_0000000000001010 = some (.wCtrlpf 0x01#8) := by decide
theorem test_decode_wPf0 : decodeTableWord 24 0b10100000_0000000000001101 = some (.wPf0 0xA0#8) := by decide
theorem test_decode_wPf1 : decodeTableWord 24 0b00110101_0000000000001110 = some (.wPf1 0x35#8) := by decide
theorem test_decode_wPf2 : decodeTableWord 24 0b11000001_0000000000001111 = some (.wPf2 0xC1#8) := by decide

/-- Vector A5's address is no register's. -/
theorem test_decode_busWrite : decodeTableWord 24 0b01010101_0000000000000011 = some (.busWrite 0x0003 0x55#8) := by
  decide

/-- With other offsets the decoder recomputes the match (30_encoding.md R83). -/
theorem test_decode_moved_register :
    decode { Config.pDefault with startAddr := 0x0100, endAddr := 0x0180 } (.bus .write 0x840109) =
      .ok (.wColubk 0x84#8) := by decide

theorem test_decode_busRead :
    decode Config.pDefault (.bus .read 0b0000000000001101) = .ok (.busRead 0x000D) := by decide
theorem test_decode_new : decode Config.pDefault (.call .new [0x0000, 0x0080]) = .ok (.new 0x0000 0x0080) := by decide
theorem test_decode_contains : decode Config.pDefault (.call .contains [0x007F]) = .ok (.contains 0x007F) := by decide
theorem test_decode_getBusRegion : decode Config.pDefault (.call .getBusRegion []) = .ok .getBusRegion := by decide
theorem test_decode_process : decode Config.pDefault (.call .process [3]) = .ok (.process 3) := by decide
theorem test_decode_lookup :
    decode Config.pDefault (.part (.lookup .read) [0x000D]) = .ok (.lookup .read 0x000D) := by decide
theorem test_decode_mirrorRecompute :
    decode Config.pDefault (.part .mirrorRecompute []) = .ok .mirrorRecompute := by decide
theorem test_decode_applyPending : decode Config.pDefault (.part .applyPending []) = .ok .applyPending := by decide
theorem test_decode_catchUp : decode Config.pDefault (.part .catchUp []) = .ok .catchUp := by decide
theorem test_decode_chipCycle : decode Config.pDefault (.part .chipCycle []) = .ok .chipCycle := by decide
theorem test_decode_beamAdvance : decode Config.pDefault (.part .beamAdvance []) = .ok .beamAdvance := by decide
theorem test_decode_vsyncCheck : decode Config.pDefault (.part .vsyncCheck []) = .ok .vsyncCheck := by decide
theorem test_decode_pixelEmit : decode Config.pDefault (.part .pixelEmit []) = .ok .pixelEmit := by decide

theorem test_reject_wide_word : decode Config.pDefault (.bus .write 0x1000000) = .error .wordTooWide := by decide
theorem test_reject_wide_read : decode Config.pDefault (.bus .read 0x10000) = .error .wordTooWide := by decide
theorem test_reject_wide_address :
    decode Config.pDefault (.call .contains [0x10000]) = .error .addressTooWide := by decide
theorem test_reject_arguments : decode Config.pDefault (.call .process []) = .error .wrongArguments := by decide

/-! ## Construction and bus access (95_test_vectors.md section 2.1) -/

/-- Vector A1. -/
theorem test_new_gives_constructed_state :
    exec (.new 0x0000 0x0080) (State.beforeNew Config.pDefault) =
      .next { State.reset with atBoundary := false } := by rfl

/-- 10_state.md R42: the chip count starts at CYCLE_RATIO times the counter. -/
theorem test_new_reads_counter :
    gives (.new 0x0000 0x0080) { State.beforeNew Config.pDefault with cycleNum := 5 }
      (fun t => t.chipCycleNum == 15 && t.cycleNum == 5) = true := by decide

/-- Vector A2. -/
theorem test_contains_last :
    gives (.contains 0x007F) State.reset (fun t => t.answer == .claimed true) = true := by decide
theorem test_contains_end :
    gives (.contains 0x0080) State.reset (fun t => t.answer == .claimed false) = true := by decide

/-- 40_bus_access.md R92. -/
theorem test_getBusRegion : gives .getBusRegion State.reset
    (fun t => t.answer == .region ⟨0x0000, 0x0080, .contains, .busRead, .busWrite⟩) = true := by decide

/-- Vector A4: a write handler does not make the offset readable. -/
theorem test_busRead_miss : exec (.busRead 0x000D) State.reset =
    .next { State.reset with answer := .byte 0x00#8, diag := [.invalidAddress (.read 0x000D)] } := rfl

/-- 20_memory.md R54: a hit returns the handler's value. -/
theorem test_busRead_hit : exec (.busRead 0x000D) readable =
    .next { readable with answer := .byte (Config.readHandler 7 readable.chip) } := rfl

/-- Vectors A5 and A9: a miss does not disturb a pending write. -/
theorem test_busWrite_miss : exec (.busWrite 0x0003 0x55#8) (pending .colubk 0x84#8) =
    .next { pending .colubk 0x84#8 with diag := [.invalidAddress (.write 0x0003 0x55#8)] } := rfl

/-- Vector A6: inside the region, unmapped. -/
theorem test_busWrite_last_offset : gives (.busWrite 0x007F 0x01#8) State.reset
    (fun t => t.pendingWrite == none && t.diag == [.invalidAddress (.write 0x007F 0x01#8)]) = true := by decide

/-- Vector A11, and A7: the register itself is not yet written. -/
theorem test_lookup_write_hit :
    gives (.lookup .write 0x000F) State.reset (fun t => t.answer == .hit (.write .pf2)) = true := by decide
theorem test_lookup_read_miss :
    gives (.lookup .read 0x000F) State.reset (fun t => t.answer == .miss) = true := by decide
theorem test_wVsync : gives (.wVsync 0x01#8) State.reset
    (fun t => t.pendingWrite == some (.vsync, 0x01#8) && t.fatal == none) = true := by decide
theorem test_wVblank : gives (.wVblank 0x02#8) State.reset
    (fun t => t.pendingWrite == some (.vblank, 0x02#8) && !t.vblankMode) = true := by decide
theorem test_wWsync : gives (.wWsync 0x00#8) State.reset
    (fun t => t.pendingWrite == some (.wsync, 0x00#8) && t.cycleNum == 0) = true := by decide
theorem test_wColupf : gives (.wColupf 0x1E#8) State.reset
    (fun t => t.pendingWrite == some (.colupf, 0x1E#8)) = true := by decide
theorem test_wColubk_overwrites : gives (.wColubk 0x84#8) (pending .vsync 0x02#8)
    (fun t => t.pendingWrite == some (.colubk, 0x84#8) && t.backgroundColor == 0x00#8) = true := by decide
theorem test_wCtrlpf : gives (.wCtrlpf 0x01#8) State.reset
    (fun t => t.pendingWrite == some (.ctrlpf, 0x01#8)) = true := by decide
theorem test_wPf0 : gives (.wPf0 0xF0#8) State.reset
    (fun t => t.pendingWrite == some (.pf0, 0xF0#8) && t.playfieldMask == 0) = true := by decide
theorem test_wPf1 :
    gives (.wPf1 0x35#8) State.reset (fun t => t.pendingWrite == some (.pf1, 0x35#8)) = true := by decide
theorem test_wPf2 :
    gives (.wPf2 0xC1#8) State.reset (fun t => t.pendingWrite == some (.pf2, 0xC1#8)) = true := by decide

/-! ## Handlers, as APPLY_PENDING performs them (95_test_vectors.md section 2.2 and T2) -/

/-- The mask after a byte is applied to a mask, mirrored or not. -/
def maskAfter (r : RegId) (v : Byte) (m : Mask) (mirrored : Bool) : Option Mask :=
  (nextOf (exec .applyPending
    { State.reset with pendingWrite := some (r, v), playfieldMask := m, playfieldMirrored := mirrored })).map
    (·.playfieldMask)

/-- Vectors H1, H3 (`$03` and `$80`). -/
theorem test_hVsync : gives .applyPending (pending .vsync 0x02#8) (fun t => t.vsyncMode) = true ∧
    gives .applyPending (pending .vsync 0x03#8) (fun t => t.fatal == some (.invalidRegisterValue .vsync 0x03#8) &&
      t.pendingWrite == some (.vsync, 0x03#8) && !t.vsyncMode) = true := by decide

/-- Vectors H4 (`$C3`), H5 (`$C1`), H6 (`$06`). -/
theorem test_hVblank : gives .applyPending (pending .vblank 0xC3#8) (fun t => t.vblankMode) = true ∧
    gives .applyPending (pending .vblank 0xC1#8) (fun t => !t.vblankMode && t.fatal == none) = true ∧
    gives .applyPending (pending .vblank 0x06#8)
      (fun t => t.fatal == some (.invalidRegisterValue .vblank 0x06#8)) = true := by decide

/-- Vectors S6 (40 gives 98), S7 (151 gives 174). -/
theorem test_hWsync :
    gives .applyPending { pending .wsync 0x00#8 with cycleNum := 40 } (fun t => t.cycleNum == 98) = true ∧
    gives .applyPending { pending .wsync 0xFF#8 with cycleNum := 151 } (fun t => t.cycleNum == 174) = true := by decide

/-- Vector H7. -/
theorem test_hColours : gives .applyPending (pending .colupf 0xFF#8) (fun t => t.playfieldColor == 0xFF#8) = true ∧
    gives .applyPending (pending .colubk 0x01#8) (fun t => t.backgroundColor == 0x01#8) = true := by decide

/-- Vectors H18 to H21. -/
theorem test_hCtrlpf : maskAfter .ctrlpf 0x01#8 0xC135AC135A#40 false = some 0x5AC83C135A#40 ∧
    maskAfter .ctrlpf 0x00#8 0x5AC83C135A#40 true = some 0xC135AC135A#40 ∧
    maskAfter .ctrlpf 0xFE#8 0xC135AC135A#40 false = some 0xC135AC135A#40 := by decide

/-- Vectors H8, H9, H11, H12, H22. -/
theorem test_hPf0 : maskAfter .pf0 0xF0#8 0#40 false = some 0x0000F0000F#40 ∧
    maskAfter .pf0 0xF0#8 0#40 true = some 0xF00000000F#40 ∧
    maskAfter .pf0 0x1F#8 0#40 false = some 0x0000100001#40 ∧
    maskAfter .pf0 0x00#8 0x0000F0000F#40 false = some 0#40 := by decide

/-- Vectors H13, H23, H26. -/
theorem test_hPf1 : maskAfter .pf1 0x01#8 0#40 false = some 0x0001000010#40 ∧
    maskAfter .pf1 0x01#8 0#40 true = some 0x0800000010#40 ∧
    gives .applyPending { pending .pf1 0x01#8 with params := { Config.pDefault with pf1Reversed := true } }
      (fun t => t.playfieldMask == 0x0080000800#40) = true := by decide

/-- Vectors H16, H24. -/
theorem test_hPf2 : maskAfter .pf2 0x01#8 0#40 false = some 0x0100001000#40 ∧
    maskAfter .pf2 0x80#8 0#40 true = some 0x0000180000#40 := by decide

/-- T2: a set upper bit is replaced, not kept. -/
theorem test_mirrorRecompute_replaces :
    gives .mirrorRecompute { State.reset with playfieldMask := 0x0000F0000F#40, playfieldMirrored := true }
      (fun t => t.playfieldMask == 0xF00000000F#40) = true := by decide

/-- T2: applying it to its own result changes nothing. -/
theorem test_mirrorRecompute_again :
    gives .mirrorRecompute { State.reset with playfieldMask := 0x5AC83C135A#40, playfieldMirrored := true }
      (fun t => t.playfieldMask == 0x5AC83C135A#40) = true := by decide

/-! ## The synchronizer and the beam (95_test_vectors.md sections 2.3, 2.4, 2.5) -/

/-- Vector S2, its PROC. -/
theorem test_process_applies_and_catches_up :
    gives (.process 3) { pending .colubk 0x84#8 with cycleNum := 3 } (fun t => t.backgroundColor == 0x84#8 &&
      t.chipCycleNum == 9 && t.gunX == 9 && t.video == [] && t.pendingWrite == none) = true := by decide

/-- Vector E2, its PROC. -/
theorem test_process_fatal_write :
    exec (.process 3) { pending .vsync 0x01#8 with cycleNum := 3 } =
      .next { pending .vsync 0x01#8 with
        cycleNum := 3
        fatal := some (.invalidRegisterValue .vsync 0x01#8)
        diag := [.fatal (.invalidRegisterValue .vsync 0x01#8)] } := rfl

set_option maxRecDepth 20000 in
/-- Vector S4, its PROC. -/
theorem test_catchUp_two_pixels : gives .catchUp { State.reset with cycleNum := 23 } (fun t => t.chipCycleNum == 69 &&
    t.gunX == 69 && t.video == [⟨68, 0, .color 0x00#8⟩, ⟨69, 0, .color 0x00#8⟩]) = true := by decide

/-- Vector E3, from its last CPU cycle. -/
theorem test_catchUp_vsync_missing : gives .catchUp { at' 75 225 0 with cycleNum := 76 }
    (fun t => t.fatal == some (.vsyncMissing 0 1 227) && t.chipCycleNum == 227 && t.gunY == 1 &&
      t.video.length == 2) = true := by decide

/-- Vector B4. -/
theorem test_chipCycle_pixel : gives .chipCycle { at' 0 67 5 with backgroundColor := 0x84#8 }
    (fun t => t.gunX == 68 && t.video == [⟨68, 5, .color 0x84#8⟩] && t.chipCycleNum == 1) = true := by decide

/-- Vector B2. -/
theorem test_chipCycle_next_line : gives .chipCycle (at' 0 227 7)
    (fun t => t.gunX == 0 && t.gunY == 8 && t.video == []) = true := by decide

/-- Vectors B1, B3. -/
theorem test_beamAdvance : gives .beamAdvance (at' 0 226 7) (fun t => t.gunX == 227 && t.gunY == 7) = true ∧
    gives .beamAdvance (at' 100 227 261) (fun t => t.gunX == 0 && t.gunY == 0) = true := by decide

/-- T7: line 3 is legal with sync on, line 4 is not. -/
theorem test_vsyncCheck_on :
    gives .vsyncCheck { at' 0 227 3 with vsyncMode := true } (fun t => t.fatal == none) = true ∧
    gives .vsyncCheck { at' 0 0 4 with vsyncMode := true } (fun t => t.fatal == some (.vsyncTooLong 0 4 0)) = true := by
  decide

/-- 43_beam_model.md R138: with sync off lines 0 and 3 are legal, lines 1 and 2 are not. -/
theorem test_vsyncCheck_off : gives .vsyncCheck (at' 0 5 0) (fun t => t.fatal == none) = true ∧
    gives .vsyncCheck (at' 0 5 2) (fun t => t.fatal == some (.vsyncMissing 5 2 0)) = true ∧
    gives .vsyncCheck (at' 0 5 3) (fun t => t.fatal == none) = true := by decide

/-- T5: cell 0 ends at 71. -/
theorem test_pixelEmit_cell : gives .pixelEmit { at' 0 71 0 with playfieldMask := 1#40, playfieldColor := 0x1E#8 }
      (fun t => t.video == [⟨71, 0, .color 0x1E#8⟩]) = true ∧
    gives .pixelEmit { at' 0 72 0 with playfieldMask := 1#40, backgroundColor := 0x84#8 }
      (fun t => t.video == [⟨72, 0, .color 0x84#8⟩]) = true := by decide

/-- Vector B6: blank pixels in horizontal blank too. -/
theorem test_pixelEmit_blank : gives .pixelEmit { at' 0 10 0 with vblankMode := true }
    (fun t => t.video == [⟨10, 0, .blank⟩]) = true := by decide

/-! ## Steps -/

/-- The host's word runs as the very next step. -/
theorem test_withFetchWord : (nextOf (step (State.reset.withFetchWord 24 0x840009))).any
    (fun t => t.pendingWrite == some (.colubk, 0x84#8)) = true := by decide

/-- `CPU 3` (30_encoding.md R84). -/
theorem test_step_cpu : (nextOf (step { State.reset with inbox := [.cpu 3] })).any
    (fun t => t.cycleNum == 3 && !t.atBoundary && t.inbox == []) = true := by decide

/-- 60_exceptions.md R160: a hung PROCESS goes on onto line 1 with sync off, and nothing is reported. -/
theorem test_step_hung : (nextOf (step { State.reset with hung := true, gunX := 227 })).any
    (fun t => t.gunX == 0 && t.gunY == 1 && t.fatal == none && t.diag == [] && t.chipCycleNum == 1 && t.hung) = true := by
  decide

/-- 60_exceptions.md R173: the stop flag can be set at any time; R160: it ends no hang. -/
theorem test_step_hung_stop : (nextOf (step { State.reset with hung := true, inbox := [.cpu 1, .stop] })).any
    (fun t => t.stopFlag && t.hung && t.inbox == [.cpu 1]) = true := by decide

/-- 60_exceptions.md R173: an internal operation has no move of its own. -/
theorem test_step_internal : step { State.reset with inbox := [.request (.part .chipCycle [])] } =
    .refused .internalOperation := rfl

/-- 60_exceptions.md R171: a run that a fatal condition ended is not stopped. -/
theorem test_step_halted_not_stopped : step { halted with stopFlag := true, inbox := [.cpu 3] } = .refused .halted := rfl

/-- 60_exceptions.md R173: GET_BUS_REGION once, before the emulation thread starts. -/
theorem test_step_region : (nextOf (step { State.reset with inbox := [.request (.call .getBusRegion [])] })).any
      (fun t => !t.regionDue && t.inbox == []) = true ∧
    (nextOf (step { State.reset with inbox := [.cpu 0] })).any (fun t => !t.regionDue) = true := by decide
theorem test_step_region_again :
    step { State.reset with regionDue := false, inbox := [.request (.call .getBusRegion [])] } =
      .refused .startupOver := rfl

/-- R182: the loop starts after GET_BUS_REGION, so a stop flag set before does not keep the call out; R171: then the loop
leaves before its first instruction. -/
theorem test_step_region_under_stop_flag :
    (nextOf (step { State.reset with stopFlag := true, inbox := [.request (.call .getBusRegion [])] })).any
      (fun t => !t.regionDue && t.loopLeft) = true ∧
    step { State.reset with stopFlag := true, inbox := [.cpu 3] } = .refused .stopped := ⟨by decide, rfl⟩

/-- R171: no cancellation inside an instruction, whose first act here is the bus's CONTAINS. -/
theorem test_step_contains_is_inside_an_instruction :
    (nextOf (step { State.reset with inbox := [.request (.call .contains [0x0009])] })).any
      (fun t => !t.atBoundary) = true ∧
    (nextOf (step { State.reset with atBoundary := false, stopFlag := true, inbox := [.cpu 3] })).any
      (fun t => t.cycleNum == 3) = true := by decide

/-- R173: the flag can be set again after it has ended the loop. -/
theorem test_step_stop_again : step { State.reset with stopFlag := true, inbox := [.stop] } =
    .next { State.reset with stopFlag := true } := rfl

/-- Vector E8, and decision D17. -/
theorem test_halted_refuses : exec (.wColubk 0x84#8) halted = .refused .halted ∧
    exec (.busRead 0x0000) halted = .refused .halted ∧ exec (.process 0) halted = .refused .halted ∧
    exec (.contains 0x0000) halted = .refused .halted := ⟨rfl, rfl, rfl, rfl⟩

/-! ## Witnesses: concrete states that meet the hypotheses of the statements -/

theorem witness_NewBuildsTablesAndState :
    (State.beforeNew withHandler).constructed = false ∧
      (boundedParams (State.beforeNew withHandler).params 0x0000 0x0080).valid = true ∧
      (boundedParams (State.beforeNew withHandler).params 0x0000 0x0010).valid = true ∧
      (∀ r, withHandler.off r ≠ 0x7F) ∧ (∀ r, withHandler.off r ≠ 0x03) ∧
      (∀ e ∈ withHandler.readHandlers, e.1 ≠ 0x00) ∧ (withHandler.readHandlers.map Prod.fst).Nodup ∧
      (0x0D, 7) ∈ withHandler.readHandlers :=
  ⟨rfl, by decide, by decide, fun r => by cases r <;> decide, fun r => by cases r <;> decide, by decide, by decide,
    by decide⟩

theorem witness_NewRefusesSecondAndBadParameters :
    State.reset.constructed = true ∧ (State.beforeNew Config.pDefault).constructed = false ∧
      (boundedParams (State.beforeNew Config.pDefault).params 0x0000 0x000F).valid = false := by decide

theorem witness_NothingBeforeNew :
    (State.beforeNew Config.pDefault).constructed = false ∧ ∀ a b, Instr.process 0 ≠ .new a b := by simp [State.beforeNew]

theorem witness_ContainsAnswersHalfOpenRange : Idle State.reset := by decide

theorem witness_GetBusRegionReturnsBoundRegion : Idle readable := by decide

theorem witness_LookupIsByExactOffset :
    Live readable ∧ TablesBuilt readable ∧
      (∀ r, 0x0003 ≠ readable.params.startAddr + readable.params.off r) ∧
      (∀ r, 0x0080 ≠ readable.params.startAddr + readable.params.off r) ∧
      (readable.params.readHandlers.map Prod.fst).Nodup ∧ (0x0D, 7) ∈ readable.params.readHandlers ∧
      (∀ e ∈ readable.params.readHandlers, 0x000E ≠ readable.params.startAddr + e.1) :=
  ⟨by decide, by decide, fun r => by cases r <;> decide, fun r => by cases r <;> decide, by decide, by decide,
    by decide⟩

theorem witness_RegisterWritesGoToThePendingSlot : Idle State.reset ∧ TablesBuilt State.reset := by decide

theorem witness_BusWriteHitsOrReports :
    Idle State.reset ∧ TablesBuilt State.reset ∧
      (∀ r, 0x007F ≠ State.reset.params.startAddr + State.reset.params.off r) ∧
      (∀ r, 0x0080 ≠ State.reset.params.startAddr + State.reset.params.off r) :=
  ⟨by decide, by decide, fun r => by cases r <;> decide, fun r => by cases r <;> decide⟩

theorem witness_InvalidAddressIsReportedAndHarmless :
    Idle State.reset ∧ lookup State.reset.params State.reset.readTable 0x000D = none ∧
      lookup State.reset.params State.reset.readTable 0xFFFF = none ∧
      lookup State.reset.params State.reset.writeTable 0x0003 = none ∧
      lookup State.reset.params State.reset.writeTable 0x0080 = none ∧
      TablesBuilt State.reset ∧ State.reset.params.readHandlers = [] := by decide

theorem witness_BusReadHitReturnsHandlerValue :
    Idle readable ∧ lookup readable.params readable.readTable 0x000D = some 7 := by decide

theorem witness_OnlyTheLastHittingWriteSurvives :
    Idle State.reset ∧ (∀ w ∈ [((0x0003 : Nat), 0x55#8)], lookup State.reset.params State.reset.writeTable w.1 = none) ∧
      [(0x0000, 0x02#8), (0x0009, 0x84#8), (0x0003, 0x55#8)] =
        [((0x0000 : Nat), 0x02#8)] ++ (0x0009, 0x84#8) :: [(0x0003, 0x55#8)] ∧
      lookup State.reset.params State.reset.writeTable 0x0009 = some .colubk := by decide

theorem witness_WriteTakesEffectAtStartOfNextProcess :
    Idle State.reset ∧ TablesBuilt State.reset ∧ OnRaster State.reset ∧ registerLegal .vsync 0x02#8 ∧
      registerLegal .vblank 0xC3#8 ∧ registerLegal .wsync 0xFF#8 ∧
      (∃ t, exec (.process 0) { State.reset with pendingWrite := some (.vsync, 0x02#8) } = .next t) ∧
      exec (.process 0) State.reset = .next State.reset :=
  ⟨by decide, by decide, by decide, .inr rfl, by simp [registerLegal], trivial, ⟨_, rfl⟩, rfl⟩

theorem witness_ApplyPendingRunsHandlerThenClears :
    Live State.reset ∧ State.reset.pendingWrite = none ∧ Live (pending .vsync 0x02#8) ∧
      (applyHandler .vsync 0x02#8 (pending .vsync 0x02#8)).fatal = none ∧
      (applyHandler .vsync 0x01#8 (pending .vsync 0x01#8)).fatal ≠ none ∧
      (pending .vsync 0x01#8).hung = false ∧ OnRaster (pending .vsync 0x01#8) ∧
      (applyPending (pending .vsync 0x01#8)).fatal ≠ none ∧
      (applyPending (pending .vsync 0x02#8)).fatal = none := by decide

theorem witness_VsyncRegisterTakesZeroOrTwo :
    Live (pending .vsync 0x02#8) ∧ (pending .vsync 0x02#8).pendingWrite = some (.vsync, 0x02#8) ∧
      Live (pending .vsync 0x00#8) ∧ Live (pending .vsync 0x01#8) ∧ 0x01#8 ≠ 0x00#8 ∧ 0x01#8 ≠ 0x02#8 := by decide

theorem witness_VblankRegisterTakesBitOne :
    Live (pending .vblank 0xC3#8) ∧ (pending .vblank 0xC3#8).pendingWrite = some (.vblank, 0xC3#8) ∧
      (∀ k, 2 ≤ k → k ≤ 5 → (0xC3#8).getLsbD k = false) ∧
      (∃ k, 2 ≤ k ∧ k ≤ 5 ∧ (0x04#8).getLsbD k = true) ∧ ∃ k, 2 ≤ k ∧ k ≤ 5 ∧ (0x20#8).getLsbD k = true := by
  refine ⟨by decide, by decide, fun k h1 h2 => ?_, ⟨2, by decide⟩, ⟨5, by decide⟩⟩
  obtain rfl | rfl | rfl | rfl : k = 2 ∨ k = 3 ∨ k = 4 ∨ k = 5 := by omega
  all_goals decide

theorem witness_ColourRegistersStoreTheRawByte :
    Live (pending .colupf 0xFF#8) ∧ (pending .colupf 0xFF#8).pendingWrite = some (.colupf, 0xFF#8) ∧
      Live (pending .colubk 0x01#8) ∧ (pending .colubk 0x01#8).pendingWrite = some (.colubk, 0x01#8) := by decide

theorem witness_CtrlpfRegisterSetsMirroringAndExtends :
    Live { h17 with pendingWrite := some (.ctrlpf, 0x01#8) } ∧
      ({ h17 with pendingWrite := some (.ctrlpf, 0x01#8) } : State).pendingWrite = some (.ctrlpf, 0x01#8) := by decide

theorem witness_PlayfieldRegistersReplaceTheirFields :
    (Live (pending .pf0 0xA0#8) ∧ (pending .pf0 0xA0#8).pendingWrite = some (.pf0, 0xA0#8)) ∧
    (Live (pending .pf1 0x35#8) ∧ (pending .pf1 0x35#8).pendingWrite = some (.pf1, 0x35#8)) ∧
    (Live (pending .pf2 0xC1#8) ∧ (pending .pf2 0xC1#8).pendingWrite = some (.pf2, 0xC1#8)) := by decide

theorem witness_WsyncStallsToTheNextLine :
    Live { pending .wsync 0x00#8 with cycleNum := 75 } ∧ Live { pending .wsync 0x00#8 with cycleNum := 76 } ∧
      ({ pending .wsync 0x00#8 with cycleNum := 76 } : State).pendingWrite = some (.wsync, 0x00#8) := by decide

theorem witness_InvalidRegisterValueIsRaisedOnlyWhenApplied :
    Idle (pending .vsync 0x01#8) ∧ OnRaster (pending .vsync 0x01#8) ∧ TablesBuilt (pending .vsync 0x01#8) ∧
      (pending .vsync 0x01#8).pendingWrite = some (.vsync, 0x01#8) ∧ ¬ registerLegal .vsync 0x01#8 ∧
      ¬ registerLegal .vblank 0x04#8 ∧ registerLegal .vblank 0xC3#8 ∧
      ∃ t, exec (.process (pending .vblank 0xC3#8).cycleNum) (pending .vblank 0xC3#8) = .next t :=
  ⟨by decide, by decide, by decide, rfl, by simp [registerLegal], by simp [registerLegal], by simp [registerLegal], _, rfl⟩

theorem witness_MirrorRecomputeReplacesTheUpperBits : Live h17 := by decide

theorem witness_MirrorRecomputeLaws :
    lowHalf 0xFFFFFC135A#40 = lowHalf h17.playfieldMask ∧ MaskExtended h17 ∧
      (0xFE#8).getLsbD 0 = h17.playfieldMirrored ∧
      ∀ i, i < 20 → (0x80001#40).getLsbD i = (0x80001#40).getLsbD (19 - i) := by decide

theorem witness_EveryStepKeepsTheMaskExtended :
    (∃ t, step { h17 with inbox := [.request (.call .process [0])], pendingWrite := some (.ctrlpf, 0x01#8) } = .next t) ∧
      MaskExtended h17 ∧
      highHalf h17.params.init.playfieldMask =
        upper (lowHalf h17.params.init.playfieldMask) h17.params.init.playfieldMirrored :=
  ⟨⟨_, rfl⟩, by decide, by decide⟩

theorem witness_BeamAdvanceMovesOnePosition :
    (Live (at' 0 226 7) ∧ OnRaster (at' 0 226 7) ∧ (at' 0 226 7).gunX + 1 < (at' 0 226 7).params.lineLength) ∧
    (Live (at' 0 227 260) ∧ OnRaster (at' 0 227 260) ∧ (at' 0 227 260).gunX + 1 = (at' 0 227 260).params.lineLength ∧
      (at' 0 227 260).gunY + 1 < (at' 0 227 260).params.linesPerFrame) ∧
    (Live (at' 0 227 261) ∧ OnRaster (at' 0 227 261) ∧ (at' 0 227 261).gunX + 1 = (at' 0 227 261).params.lineLength ∧
      (at' 0 227 261).gunY + 1 = (at' 0 227 261).params.linesPerFrame) ∧
    ((∃ t, exec .pixelEmit (at' 0 226 7) = .next t) ∧ Instr.pixelEmit ≠ .beamAdvance ∧ Instr.pixelEmit ≠ .chipCycle ∧
      Instr.pixelEmit ≠ .catchUp ∧ (∀ c, Instr.pixelEmit ≠ .process c) ∧ ∀ a b, Instr.pixelEmit ≠ .new a b) :=
  ⟨by decide, by decide, by decide, ⟨_, rfl⟩, by simp⟩

theorem witness_VsyncCheckRaisesExactlyOutsideTheWindowRules :
    (∀ y ∈ [1, 2], Live (at' 0 5 y) ∧ OnRaster (at' 0 5 y) ∧ (at' 0 5 y).vsyncMode = false ∧ 0 < (at' 0 5 y).gunY ∧
      (at' 0 5 y).gunY < (at' 0 5 y).params.vsyncLines) ∧
    (OnRaster { at' 0 5 4 with vsyncMode := true } ∧ (at' 0 5 4).params.vsyncLateLimit < (at' 0 5 4).gunY) ∧
    (∀ y ∈ [0, 3], (at' 0 5 y).vsyncMode = false ∧ ((at' 0 5 y).gunY = 0 ∨ (at' 0 5 y).params.vsyncLines ≤ (at' 0 5 y).gunY)) ∧
    (at' 0 5 3).gunY ≤ (at' 0 5 3).params.vsyncLateLimit := by decide

theorem witness_PixelEmitSamplesTheCurrentRegisters :
    (Live { at' 0 0 5 with vblankMode := true } ∧ OnRaster { at' 0 0 5 with vblankMode := true }) ∧
    (Live (at' 0 68 5) ∧ OnRaster (at' 0 68 5) ∧ (at' 0 68 5).vblankMode = false ∧
      (at' 0 68 5).params.hblankWidth ≤ (at' 0 68 5).gunX) ∧
    (Live (at' 0 67 5) ∧ OnRaster (at' 0 67 5) ∧ (at' 0 67 5).gunX < (at' 0 67 5).params.hblankWidth) := by decide

theorem witness_VblankModeBlanksEveryPixel :
    Live (pending .vblank 0x42#8) ∧ OnRaster (pending .vblank 0x42#8) ∧
      (∃ t, exec .applyPending (pending .vblank 0x42#8) = .next t ∧ (t.fatal == none) = true) ∧
      (∃ t, exec (.process 0) { pending .colubk 0x84#8 with vblankMode := true } = .next t) ∧
      (∀ v, (pending .colubk 0x84#8).pendingWrite ≠ some (.vblank, v)) ∧ (∀ a b, Instr.process 0 ≠ .new a b) ∧
      ({ State.reset with vblankMode := true, cycleNum := 1 } : State).vblankMode = true ∧
      ∃ t, exec .catchUp { State.reset with vblankMode := true, cycleNum := 1 } = .next t ∧
        (t.video.length == 3) = true :=
  ⟨by decide, by decide, next_with (q := fun t => t.fatal == none) (by decide), ⟨_, rfl⟩, by simp [pending], by simp, rfl,
    next_with (q := fun t => t.video.length == 3) (by decide)⟩

theorem witness_EveryVisiblePositionHasItsCell :
    (Live (at' 0 68 5) ∧ OnRaster (at' 0 68 5) ∧ (at' 0 68 5).vblankMode = false ∧
      (at' 0 68 5).params.hblankWidth ≤ (at' 0 68 5).gunX) ∧
    (OnRaster (at' 0 227 5) ∧ (at' 0 227 5).params.hblankWidth ≤ (at' 0 227 5).gunX) := by decide

theorem witness_ChipCycleAdvancesChecksEmitsCounts :
    Live (at' 0 227 5) ∧ OnRaster (at' 0 227 5) ∧ Live (at' 0 227 0) ∧ OnRaster (at' 0 227 0) ∧
      (∃ u, exec .beamAdvance (at' 0 227 5) = .next u ∧
        lineLegal (at' 0 227 5).params (at' 0 227 5).vsyncMode u.gunY = true) ∧
      (∃ u, exec .beamAdvance (at' 0 227 0) = .next u ∧
        lineLegal (at' 0 227 0).params (at' 0 227 0).vsyncMode u.gunY = false) :=
  ⟨by decide, by decide, by decide, by decide, ⟨_, rfl, by decide⟩, ⟨_, rfl, by decide⟩⟩

theorem witness_WholeLineAppendsItsEventsInOrder :
    Live (at' 0 227 261) ∧ OnRaster (at' 0 227 261) ∧ (at' 0 227 261).gunX + 1 = (at' 0 227 261).params.lineLength ∧
      lineLegal (at' 0 227 261).params (at' 0 227 261).vsyncMode
        (((at' 0 227 261).gunY + 1) % (at' 0 227 261).params.linesPerFrame) = true := by decide

/-- A counter three ahead, and one that owes nothing. -/
theorem witness_CatchUpRunsExactlyTheCyclesDue :
    (Live { State.reset with cycleNum := 3 } ∧ OnRaster { State.reset with cycleNum := 3 } ∧
      LinesLegal { State.reset with cycleNum := 3 } 9) ∧
    (State.reset.chipCycleNum ≤ State.reset.params.cycleRatio * State.reset.cycleNum ∧ LinesLegal State.reset 0) := by
  decide

/-- Sync off onto line 1 after two chip cycles, and sync on onto line 4 in the first. -/
theorem witness_CatchUpHaltsAtTheFirstViolatingCycle :
    (Live { at' 75 225 0 with cycleNum := 76 } ∧ OnRaster { at' 75 225 0 with cycleNum := 76 } ∧
      2 < 3 * 76 - (at' 75 225 0).chipCycleNum ∧ LinesLegal { at' 75 225 0 with cycleNum := 76 } 2 ∧
      lineLegal (at' 75 225 0).params false (yOf (at' 75 225 0).params (beamIndex (at' 75 225 0) + 2 + 1)) = false) ∧
    (Live { at' 0 227 3 with vsyncMode := true, cycleNum := 1 } ∧
      OnRaster { at' 0 227 3 with vsyncMode := true, cycleNum := 1 } ∧ 0 < 3 * 1 - (at' 0 227 3).chipCycleNum ∧
      LinesLegal { at' 0 227 3 with vsyncMode := true, cycleNum := 1 } 0 ∧
      lineLegal (at' 0 227 3).params true (yOf (at' 0 227 3).params (beamIndex (at' 0 227 3) + 0 + 1)) = false) := by
  decide

/-- A byte of COLUBK, and a WSYNC applied near the end of line 2 that runs into line 3, with sync on. -/
theorem witness_ProcessAppliesThenCatchesUp :
    (Idle { pending .colubk 0x84#8 with cycleNum := 3 } ∧ OnRaster { pending .colubk 0x84#8 with cycleNum := 3 } ∧
      registerLegal .colubk 0x84#8 ∧ LinesLegal (applyPending { pending .colubk 0x84#8 with cycleNum := 3 }) (3 * 3)) ∧
    (Idle { at' 227 225 2 with pendingWrite := some (.wsync, 0x00#8), vsyncMode := true } ∧
      (at' 227 225 2).chipCycleNum ≤ 3 * (applyPending
        { at' 227 225 2 with pendingWrite := some (.wsync, 0x00#8), vsyncMode := true }).cycleNum ∧
      LinesLegal (applyPending { at' 227 225 2 with pendingWrite := some (.wsync, 0x00#8), vsyncMode := true })
        (3 * 250 - 3 * 227)) :=
  ⟨⟨by decide, by decide, trivial, by decide⟩, by decide, by decide, by decide⟩

theorem witness_CycleInvariantHoldsAtReturnAndEntry :
    (∃ t, exec (.process 3) { State.reset with cycleNum := 3 } = .next t ∧
      (t.fatal == none && t.hung == false) = true) ∧
    (∃ t, exec (.new 0x0000 0x0080) (State.beforeNew Config.pDefault) = .next t) ∧
    (∃ u, State.reset.chipCycleNum = State.reset.params.cycleRatio * State.reset.cycleNum ∧
      (∀ i ∈ [Input.cpu 3, .request (.call .contains [0x0009]), .request (.bus .write 0x840009)], inInstruction i = true) ∧
      Host.Core.run Sys2Proof.core 3 { State.reset with
        inbox := [Input.cpu 3, .request (.call .contains [0x0009]), .request (.bus .write 0x840009)] ++
          [.request (.call .process [3])] } = .next u) :=
  ⟨next_with (q := fun t => t.fatal == none && t.hung == false) (by decide), ⟨_, rfl⟩, ⟨_, rfl, by decide, rfl⟩⟩

/-- Vector S9 after its second W: VSYNC on, WSYNC pending, the counter at 6. -/
def stalling : State :=
  { at' 6 9 0 with chipCycleNum := 9, vsyncMode := true, pendingWrite := some (.wsync, 0x00#8), atBoundary := false }

set_option maxRecDepth 100000 in
theorem witness_WsyncResumesTheCpuBeforeTheVisibleRegion :
    RunInvariant stalling ∧ stalling.params.cycleInit % stalling.params.scanlineCpuCycles = 0 ∧
      stalling.params.init.gunX = 0 ∧
      stalling.params.cycleRatio * stalling.params.hblankCpuCycles < stalling.params.lineLength ∧
      stalling.params.cycleRatio * stalling.params.hblankCpuCycles < stalling.params.hblankWidth ∧
      stalling.pendingWrite = some (.wsync, 0x00#8) ∧
      ∃ t, exec (.process stalling.cycleNum) stalling = .next t ∧ (t.fatal == none && t.gunX == 66) = true :=
  ⟨by decide, by decide, by decide, by decide, by decide, rfl,
    next_with (q := fun t => t.fatal == none && t.gunX == 66) (by decide)⟩

theorem witness_ProcessRefusesAnotherCounter : Idle State.reset ∧ 1 ≠ State.reset.cycleNum := by decide

/-- Vector S13: the counter below a third of the chip count. -/
def backward : State := { at' 3 9 0 with cycleNum := 2 }

/-- The chip hung on the last position of line 0 with sync off, a CPU input and the stop flag waiting. -/
def hanging : State := { at' 0 227 0 with hung := true, inbox := [.cpu 1, .stop] }

theorem witness_BackwardCounterHangsWithoutACondition :
    Idle backward ∧ OnRaster backward ∧
      (∃ u, exec .applyPending backward = .next u ∧ u.fatal = none ∧ u.params.cycleRatio * u.cycleNum < u.chipCycleNum) ∧
      Live { hanging with inbox := [.cpu 1] } ∧ OnRaster { hanging with inbox := [.cpu 1] } ∧
      { hanging with inbox := [.cpu 1] }.hung = true ∧ Input.stop ∉ [Input.cpu 1] ∧
      hanging.inbox = [.cpu 1] ++ .stop :: [] :=
  ⟨by decide, by decide, ⟨_, rfl, rfl, by decide⟩, by decide, by decide, rfl, by decide, rfl⟩

theorem witness_HungProcessEmitsPixelsForever :
    Live { hanging with inbox := [.cpu 1] } ∧ OnRaster { hanging with inbox := [.cpu 1] } ∧
      { hanging with inbox := [.cpu 1] }.hung = true ∧ Input.stop ∉ [Input.cpu 1] := by decide

theorem witness_HaltedChipRefusesEveryOperation :
    Constructed halted ∧ halted.fatal = some (.invalidRegisterValue .vsync 0x01#8) ∧
      ∀ a b, Instr.contains 0 ≠ .new a b := by
  refine ⟨by decide, rfl, ?_⟩
  simp

theorem witness_FatalLatchIsNeverCleared :
    halted.constructed = true ∧ halted.fatal = some (.invalidRegisterValue .vsync 0x01#8) ∧
      ∃ t, step { halted with inbox := [.stop] } = .next t ∧ t.stopFlag = true := ⟨rfl, rfl, _, rfl, rfl⟩

theorem witness_FatalConditionIsReportedOnce :
    (pending .vsync 0x01#8).fatal = none ∧
      ∃ t, step { pending .vsync 0x01#8 with inbox := [.request (.call .process [0])] } = .next t ∧
        t.fatal = some (.invalidRegisterValue .vsync 0x01#8) := ⟨rfl, _, rfl, rfl⟩

theorem witness_OffRasterBeamOperationsFault :
    Live (at' 0 228 0) ∧ ¬ OnRaster (at' 0 228 0) ∧ ¬ OnRaster (at' 0 0 262) ∧ (at' 0 228 0).hung = false := by decide

theorem witness_EveryStepKeepsTheRunInvariant :
    RunInvariant { State.reset with inbox := [.cpu 3, .request (.call .process [3])] } ∧
      ∃ t, step { State.reset with inbox := [.cpu 3, .request (.call .process [3])] } = .next t :=
  ⟨by decide, _, rfl⟩

set_option maxRecDepth 100000 in
theorem witness_StoppedRunEndsClean :
    RunInvariant { State.reset with stopFlag := true, inbox := [.request (.bus .write 0x840009)] } ∧
      State.reset.constructed = true ∧
      step { State.reset with stopFlag := true, inbox := [.request (.bus .write 0x840009)] } = .refused .stopped ∧
      RunInvariant { State.reset with stopFlag := true } ∧ State.reset.atBoundary = true ∧ State.reset.fatal = none :=
  ⟨by decide, rfl, rfl, by decide, rfl, rfl⟩

/-- Running, stopped, halted with the flag set, and hung. -/
theorem witness_DrivingLoopEndsInOneOfThreeWays :
    (Constructed { State.reset with inbox := [.cpu 3] } ∧ OnRaster { State.reset with inbox := [.cpu 3] } ∧
      State.reset.hung = false ∧ State.reset.fatal = none ∧
      ¬ (State.reset.stopFlag = true ∧ State.reset.atBoundary = true)) ∧
    ({ State.reset with stopFlag := true }.stopFlag = true ∧ State.reset.atBoundary = true) ∧
    (Constructed { halted with stopFlag := true } ∧ halted.hung = false ∧
      halted.fatal = some (.invalidRegisterValue .vsync 0x01#8)) ∧
    (Constructed hanging ∧ OnRaster hanging ∧ hanging.hung = true ∧ hanging.fatal = none ∧
      hanging.inbox = .cpu 1 :: [.stop]) := by decide

theorem witness_CounterNeverDecreasesAndOnlyWsyncMovesIt :
    (∃ t, step { State.reset with inbox := [.cpu 3] } = .next t) ∧
      ∃ t, exec .applyPending (pending .wsync 0x00#8) = .next t ∧ t.cycleNum ≠ (pending .wsync 0x00#8).cycleNum :=
  ⟨⟨_, rfl⟩, ⟨_, rfl, by decide⟩⟩

theorem witness_ConfigurationIsFixedAfterNew :
    { State.reset with regionDue := false }.constructed = true ∧ { State.reset with regionDue := false }.regionDue = false ∧
      ∃ t, step { State.reset with regionDue := false, inbox := [.request (.bus .write 0x840009)] } = .next t :=
  ⟨rfl, rfl, next_exists (by decide)⟩

theorem witness_StreamsAreAppendOnly :
    State.reset.constructed = true ∧
      ∃ t, step { State.reset with inbox := [.request (.bus .read 0x0000)] } = .next t ∧ t.diag ≠ [] :=
  ⟨rfl, _, rfl, by decide⟩

theorem witness_OnlyChipCyclesMoveTheBeam :
    (∃ t, exec .applyPending (pending .wsync 0x00#8) = .next t) ∧ (∀ a b, Instr.applyPending ≠ .new a b) ∧
      (∀ c, Instr.applyPending ≠ .process c) ∧ Instr.applyPending ≠ .catchUp ∧ Instr.applyPending ≠ .chipCycle ∧
      Instr.applyPending ≠ .beamAdvance := ⟨⟨_, rfl⟩, by simp⟩

theorem witness_RegistersChangeOnlyThroughTheirOwnHandler :
    (∃ t, exec .applyPending (pending .colubk 0x84#8) = .next t) ∧ (∀ a b, Instr.applyPending ≠ .new a b) ∧
      (∀ v, (pending .colubk 0x84#8).pendingWrite ≠ some (.vsync, v)) ∧
      (∀ v, (pending .colubk 0x84#8).pendingWrite ≠ some (.vblank, v)) ∧
      (∀ v, (pending .colubk 0x84#8).pendingWrite ≠ some (.colupf, v)) ∧
      (∀ v, (pending .vsync 0x02#8).pendingWrite ≠ some (.colubk, v)) ∧
      (∀ v, (pending .colubk 0x84#8).pendingWrite ≠ some (.ctrlpf, v)) ∧
      (∀ r v, (pending .colubk 0x84#8).pendingWrite = some (r, v) → r ≠ .pf0 ∧ r ≠ .pf1 ∧ r ≠ .pf2) ∧
      Instr.applyPending ≠ .mirrorRecompute ∧
      (∀ r v, (pending .colubk 0x84#8).pendingWrite = some (r, v) →
        r ≠ .ctrlpf ∧ r ≠ .pf0 ∧ r ≠ .pf1 ∧ r ≠ .pf2) := by
  refine ⟨⟨_, rfl⟩, ?_⟩
  simp [pending]

theorem witness_StepRunsTheDecodedOperation :
    State.reset.hung = false ∧ State.reset.loopLeft = false ∧ { State.reset with stopFlag := true }.loopLeft = true ∧
      byStartup .getBusRegion = true ∧ byStartup (.wColubk 0x84#8) = false ∧
      (∀ c, Instr.wColubk 0x84#8 ≠ .process c) ∧
      decode State.reset.params (.bus .write 0x840009) = .ok (.wColubk 0x84#8) ∧
      hostVisible (.wColubk 0x84#8) = true ∧ Instr.wColubk 0x84#8 ≠ .getBusRegion ∧
      decode State.reset.params (.call .getBusRegion []) = .ok .getBusRegion ∧ State.reset.regionDue = true ∧
      { State.reset with regionDue := false }.regionDue = false ∧
      decode State.reset.params (.part .chipCycle []) = .ok .chipCycle ∧ hostVisible .chipCycle = false ∧
      ∃ t, step { State.reset with inbox := [.request (.bus .write 0x840009)] } = .next t :=
  ⟨by decide, by decide, by decide, rfl, rfl, by simp, by decide, by decide, by decide, by decide, rfl, rfl, by decide,
    by decide, next_exists (by decide)⟩

theorem witness_StepTakesTheSurroundingsInputs :
    State.reset.hung = false ∧ State.reset.loopLeft = false ∧ Live { State.reset with inbox := [.cpu 0] } ∧
      ({ State.reset with inbox := [.stop] } : State).inbox = .stop :: [] ∧ State.reset.inbox = [] := by decide

theorem witness_DecodeOfEncodeIsTheOperation :
    Config.pDefault.valid = true ∧ wellFormed Config.pDefault (.busWrite 0xFFFF 0xFF#8) = true ∧
      wellFormed Config.pDefault (.new 0xFFFF 0x10000) = true ∧ wellFormed Config.pDefault (.wPf2 0xFF#8) = true := by
  decide

theorem witness_EncodeOfDecodeIsTheRequest :
    decode Config.pDefault (.bus .write 0xFFFFFF) = .ok (.busWrite 0xFFFF 0xFF#8) ∧
      decode Config.pDefault (.bus .write 0x000000) = .ok (.wVsync 0x00#8) := by decide

end Sys2Proof.Tests
end

