-- ==== Sys2Proof/Proofs/CycleInvariant.lean ====
section
/-! PROOFS. The cycle invariant (10_state.md R38): a catch-up that ends reaches its target, and the inputs of an
instruction leave the chip count where the last catch-up put it. -/

namespace Sys2Proof.Machine

/-! ## Where PROCESS returns -/

/-- A catch-up that neither halts nor hangs stops at its target (42_cycle_synchronizer.md R122, R123). -/
theorem catchUp_reaches_target {s : State} (hf : (catchUp s).fatal = none) (hh : (catchUp s).hung = false) :
    (catchUp s).chipCycleNum = (catchUp s).target := by
  rw [(KeepsRegisters.catchUp s).target]
  unfold catchUp at hf hh ⊢
  split
  case isTrue hlt => simp [hlt] at hh
  case isFalse hle =>
    rw [if_neg hle] at hf
    rw [runChipCycles_count _ hf]
    omega

/-- So does PROCESS, whose step 2 runs unless step 1 was fatal (42_cycle_synchronizer.md R120). -/
theorem process_reaches_target {s : State} (hf : (process s).fatal = none) (hh : (process s).hung = false) :
    (process s).chipCycleNum = (process s).target := by
  unfold process at hf hh ⊢
  cases hp : (applyPending s).fatal with
  | none =>
    rw [orHalted_none hp] at hf hh ⊢
    exact catchUp_reaches_target hf hh
  | some e =>
    rw [orHalted_some hp, hp] at hf
    cases hf

/-! ## What an instruction keeps between two PROCESSes -/

/-- `t` has the chip count and the parameters of `s`, a counter no lower, and hangs exactly if `s` does. -/
structure KeepsChipCount (s t : State) : Prop where
  hung : t.hung = s.hung
  params : t.params = s.params
  chipCycleNum : t.chipCycleNum = s.chipCycleNum
  cycleNum : s.cycleNum ≤ t.cycleNum

namespace KeepsChipCount

theorem refl (s : State) : KeepsChipCount s s := ⟨rfl, rfl, rfl, Nat.le_refl _⟩

theorem trans {s t u : State} (h : KeepsChipCount s t) (g : KeepsChipCount t u) : KeepsChipCount s u :=
  ⟨g.hung.trans h.hung, g.params.trans h.params, g.chipCycleNum.trans h.chipCycleNum, h.cycleNum.trans g.cycleNum⟩

theorem taking (i : Instr) (rest : List Input) (s : State) : KeepsChipCount s (s.taking i rest) :=
  ⟨rfl, rfl, rfl, Nat.le_refl _⟩

theorem busRead (addr : Nat) (s : State) : KeepsChipCount s (busRead addr s) := by
  unfold Machine.busRead
  split <;> exact ⟨rfl, rfl, rfl, Nat.le_refl _⟩

theorem busWrite (addr : Nat) (v : Byte) (s : State) : KeepsChipCount s (busWrite addr v s) := by
  unfold Machine.busWrite
  split <;> exact ⟨rfl, rfl, rfl, Nat.le_refl _⟩

/-- The cycle invariant before, carried over to the later state (10_state.md R38). -/
theorem count_eq {s t : State} (h : KeepsChipCount s t) (hs : s.chipCycleNum = s.params.cycleRatio * s.cycleNum) :
    t.chipCycleNum = t.params.cycleRatio * s.cycleNum := by
  rw [h.chipCycleNum, h.params, hs]

end KeepsChipCount

/-! ## The operations inside an instruction -/

open Laws.RequestForm (hasBusFormat)

theorem hasBusFormat_registerWrite (r : RegId) (v : Byte) : hasBusFormat (registerWrite r v) = true := by
  cases r <;> rfl

theorem hasBusFormat_of_write {i : Instr} {addr : Nat} {v : Byte} {p : Params}
    (hw : i = .busWrite addr v ∨ ∃ r, i = registerWrite r v ∧ addr = p.addrOf r) : hasBusFormat i = true := by
  rcases hw with rfl | ⟨r, rfl, -⟩
  · rfl
  · exact hasBusFormat_registerWrite r v

/-- PROCESS answers a next state by its two steps only (42_cycle_synchronizer.md R120). -/
theorem exec_process_next {c : Nat} {s t : State} (h : exec (.process c) s = .next t) : t = process s := by
  cases exec_next h with
  | process _ _ => rfl
  | query _ _ _ hq => simp at hq
  | write _ _ _ _ hw => cases hasBusFormat_of_write hw

/-- NEW answers a next state by construction only (40_bus_access.md R90). -/
theorem exec_new_next {a b : Nat} {s t : State} (h : exec (.new a b) s = .next t) :
    t = construct (boundedParams s.params a b) s := by
  cases exec_next h with
  | new _ _ _ _ => rfl
  | query _ _ _ hq => simp at hq
  | write _ _ _ _ hw => cases hasBusFormat_of_write hw

/-- A bus word decodes to an operation of formats W and R (30_encoding.md R71, R72, R83). -/
theorem decodeBus_hasBusFormat {p : Params} {dir : Direction} {word : Nat} {i : Instr}
    (h : decodeBus p dir word = .ok i) : hasBusFormat i = true := by
  cases dir with
  | write =>
    simp only [decodeBus] at h
    split at h
    · cases h
      unfold decodeWrite
      split
      · exact hasBusFormat_registerWrite _ _
      · rfl
    · cases h
  | read =>
    simp only [decodeBus] at h
    split at h
    · cases h; rfl
    · cases h

/-- A CONTAINS call decodes to CONTAINS only (30_encoding.md R73). -/
theorem decodeCall_contains {p : Params} {args : List Nat} {i : Instr}
    (h : decodeCall p .contains args = .ok i) : ∃ addr, i = .contains addr := by
  rcases args with _ | ⟨addr, _ | ⟨_, _⟩⟩
  · cases h
  · simp only [decodeCall] at h
    split at h
    · cases h; exact ⟨addr, rfl⟩
    · cases h
  · cases h

/-- The requests of an instruction decode to bus accesses and CONTAINS. -/
theorem decode_inInstruction {p : Params} {r : Request} {i : Instr} (hin : inInstruction (.request r) = true)
    (h : decode p r = .ok i) : hasBusFormat i = true ∨ ∃ addr, i = .contains addr := by
  cases r with
  | bus dir word => exact .inl (decodeBus_hasBusFormat h)
  | call name args =>
    cases name with
    | contains => exact .inr (decodeCall_contains h)
    | new => cases hin
    | getBusRegion => cases hin
    | process => cases hin
  | part name args => cases hin

/-- Bus accesses and CONTAINS run no chip cycle (10_state.md R36) and take no further input. -/
theorem Effect.keepsChipCount {i : Instr} {s t : State} (h : Effect s i t)
    (hi : hasBusFormat i = true ∨ ∃ addr, i = .contains addr) : KeepsChipCount s t ∧ t.inbox = s.inbox := by
  cases h with
  | query _ a _ _ => exact ⟨⟨rfl, rfl, rfl, Nat.le_refl _⟩, rfl⟩
  | read addr _ => exact ⟨.busRead addr s, (Extends.busRead addr s).inbox⟩
  | write _ addr v _ _ => exact ⟨.busWrite addr v s, (Extends.busWrite addr v s).inbox⟩
  | _ => simp [hasBusFormat] at hi

/-! ## The steps and the runs of an instruction -/

/-- One input of an instruction is taken: the chip count waits for the next PROCESS. -/
theorem step_inInstruction {s t : State} {inp : Input} {rest : List Input} (hh : s.hung = false)
    (hb : s.inbox = inp :: rest) (hin : inInstruction inp = true) (h : step s = .next t) :
    KeepsChipCount s t ∧ t.inbox = rest := by
  rcases step_next h with ⟨hung, -⟩ | ⟨-, ⟨empty, -⟩ | ⟨rest', hcase⟩⟩
  · rw [hh] at hung; cases hung
  · rw [hb] at empty; cases empty
  · rcases hcase with ⟨n, hb', -, -, rfl⟩ | ⟨hb', -⟩ | ⟨r, i, hb', hd, -, hx⟩ <;>
      obtain ⟨rfl, rfl⟩ := List.cons.inj (hb.symm.trans hb')
    · exact ⟨⟨rfl, rfl, rfl, Nat.le_add_right _ _⟩, rfl⟩
    · cases hin
    · obtain ⟨hk, hbox⟩ := (exec_next hx).keepsChipCount (decode_inInstruction hin hd)
      exact ⟨(KeepsChipCount.taking i rest s).trans hk, hbox⟩

/-- A run of at least one step is a step and the rest of the run. -/
theorem run_succ_next {M : Host.Core} {n : Nat} {s u : M.State} (h : M.run (n + 1) s = .next u) :
    ∃ t, M.step s = .next t ∧ M.run n t = .next u := by
  unfold Host.Core.run at h
  split at h
  · rename_i t hs
    exact ⟨t, hs, h⟩
  · cases h
  · cases h

/-- A run over inputs of instructions: no PROCESS is among them, so the chip count stands still. -/
theorem run_inInstruction {ins rest : List Input} {s u : State} (hh : s.hung = false) (hb : s.inbox = ins ++ rest)
    (hin : ∀ i ∈ ins, inInstruction i = true) (h : Host.Core.run Sys2Proof.core ins.length s = .next u) :
    KeepsChipCount s u := by
  induction ins generalizing s with
  | nil =>
    cases h
    exact .refl _
  | cons inp ins ih =>
    obtain ⟨hinp, hins⟩ := List.forall_mem_cons.mp hin
    obtain ⟨t, hs, hr⟩ := run_succ_next h
    obtain ⟨hk, hb'⟩ := step_inInstruction hh hb hinp hs
    exact hk.trans (ih (hk.hung.trans hh) hb' hins hr)

/-! ## The obligation -/

/-- Settles O38: PROCESS returns at its target, NEW sets the count to it, and no input of an instruction moves the
count. -/
theorem cycleInvariantHoldsAtReturnAndEntry : Obligations.CycleInvariantHoldsAtReturnAndEntry := by
  refine ⟨fun c s t h hf hh => ?_, fun a b s t h => ?_, fun s u ins rest hh hs hb hin h => ?_⟩
  · obtain rfl := exec_process_next h
    exact process_reaches_target hf hh
  · obtain rfl := exec_new_next h
    rfl
  · have hk := run_inInstruction hh hb hin h
    have hc := hk.count_eq hs
    exact ⟨hc, hc.trans_le (Nat.mul_le_mul_left _ hk.cycleNum)⟩

end Sys2Proof.Machine
end

/-! PROOFS. The deferred write (20_memory.md R61, R62): what a sequence of write transactions leaves in the pending slot,
and when the pair in the slot takes effect. -/

namespace Sys2Proof.Machine

/-! ## One write transaction -/

theorem busWrite_hit {s : State} {addr : Nat} {r : RegId} (h : lookup s.params s.writeTable addr = some r) (v : Byte) :
    busWrite addr v s = s.setPendingWrite (some (r, v)) := by
  simp only [busWrite, h]

theorem busWrite_miss {s : State} {addr : Nat} (h : lookup s.params s.writeTable addr = none) (v : Byte) :
    busWrite addr v s = s.report (.invalidAddress (.write addr v)) := by
  simp only [busWrite, h]

theorem exec_busWrite {s : State} (h : Idle s) (addr : Nat) (v : Byte) :
    exec (.busWrite addr v) s = .next (busWrite addr v s) := by
  rw [exec, execBusWrite, whenIdle_eq h]

/-- A register row is the write transaction to the register's address (30_encoding.md R83). -/
theorem exec_registerWrite (r : RegId) (v : Byte) (s : State) :
    exec (registerWrite r v) s = writeRegister r v s := by
  cases r <;> rfl

/-- With the tables of NEW a register row hits, and only fills the slot (40_bus_access.md R95). -/
theorem exec_registerWrite_pending {s : State} (h : Idle s) (ht : TablesBuilt s) (r : RegId) (v : Byte) :
    exec (registerWrite r v) s = .next (s.setPendingWrite (some (r, v))) := by
  have ⟨⟨⟨_, hv⟩, _⟩, _⟩ := h
  have hit : lookup s.params s.writeTable (s.params.addrOf r) = some r := by
    rw [ht.1, lookup_buildWriteTable hv, registerAt_addrOf hv]
  rw [exec_registerWrite, writeRegister, whenIdle_eq h, busWrite_hit hit]

/-! ## A sequence of write transactions -/

/-- The slot after a sequence of write transactions, `look` being LOOKUP in WT: each hit replaces what was there. -/
def slotAfter (look : Nat → Option RegId) : List (Nat × Byte) → Option (RegId × Byte) → Option (RegId × Byte)
  | [], slot => slot
  | w :: ws, slot => slotAfter look ws (((look w.1).map fun r => (r, w.2)).or slot)

/-- The reports of a sequence of write transactions: one for each miss, in order (60_exceptions.md R155). -/
def missReports (look : Nat → Option RegId) (ws : List (Nat × Byte)) : List DiagEvent :=
  (ws.filter fun w => (look w.1).isNone).map fun w => .invalidAddress (.write w.1 w.2)

theorem execAll_cons_next {i : Instr} {is : List Instr} {s t : State} (h : exec i s = .next t) :
    execAll (i :: is) s = execAll is t := by
  rw [execAll, h]

/-- Any sequence of write transactions completes on an idle chip, and touches the slot and the reports only. -/
theorem execAll_writesOf (ws : List (Nat × Byte)) {s : State} (h : Idle s) :
    execAll (writesOf ws) s = .next { s with
      pendingWrite := slotAfter (lookup s.params s.writeTable) ws s.pendingWrite
      diag := s.diag ++ missReports (lookup s.params s.writeTable) ws } := by
  induction ws generalizing s with
  | nil => simp [writesOf, execAll, slotAfter, missReports]
  | cons w ws ih =>
    have first := exec_busWrite h w.1 w.2
    cases hl : lookup s.params s.writeTable w.1 with
    | some r =>
      rw [busWrite_hit hl] at first
      rw [writesOf, List.map_cons, execAll_cons_next first]
      refine (ih (s := s.setPendingWrite (some (r, w.2))) h).trans ?_
      simp [slotAfter, missReports, hl, State.setPendingWrite]
    | none =>
      rw [busWrite_miss hl] at first
      rw [writesOf, List.map_cons, execAll_cons_next first]
      refine (ih (s := s.report (.invalidAddress (.write w.1 w.2))) h).trans ?_
      simp [slotAfter, missReports, hl, State.report]

section
variable {look : Nat → Option RegId} {ws : List (Nat × Byte)}

theorem slotAfter_misses (h : ∀ w ∈ ws, look w.1 = none) (slot : Option (RegId × Byte)) :
    slotAfter look ws slot = slot := by
  induction ws with
  | nil => rfl
  | cons w ws ih =>
    obtain ⟨hw, hws⟩ := List.forall_mem_cons.mp h
    rw [slotAfter, hw]
    exact ih hws

theorem slotAfter_append (before after : List (Nat × Byte)) (slot : Option (RegId × Byte)) :
    slotAfter look (before ++ after) slot = slotAfter look after (slotAfter look before slot) := by
  induction before generalizing slot with
  | nil => rfl
  | cons w before ih => exact ih _

/-- The last hit decides the slot, whatever stood in it and whatever came before. -/
theorem slotAfter_last_hit {before after : List (Nat × Byte)} {w : Nat × Byte} {r : RegId} (hw : look w.1 = some r)
    (hafter : ∀ x ∈ after, look x.1 = none) (slot : Option (RegId × Byte)) :
    slotAfter look (before ++ w :: after) slot = some (r, w.2) := by
  rw [slotAfter_append, slotAfter, slotAfter_misses hafter, hw]
  rfl

end

/-- Settles O13: the sequence has a closed form (`execAll_writesOf`), in which the last hit decides the slot. -/
theorem onlyTheLastHittingWriteSurvives : Obligations.OnlyTheLastHittingWriteSurvives := by
  intro s ws h
  refine ⟨_, execAll_writesOf ws h, rfl, rfl, fun hmiss => slotAfter_misses hmiss _, ?_⟩
  rintro before w after r rfl hw hafter
  exact slotAfter_last_hit hw hafter _

/-! ## The next PROCESS -/

/-- No handler reads or writes the pending slot (42_cycle_synchronizer.md R121). -/
theorem applyHandler_setPendingWrite (r : RegId) (v : Byte) (w : Option (RegId × Byte)) (s : State) :
    applyHandler r v (s.setPendingWrite w) = (applyHandler r v s).setPendingWrite w := by
  cases r with
  | vsync => simp only [applyHandler, hVsync]; split <;> rfl
  | vblank => simp only [applyHandler, hVblank]; split <;> rfl
  | wsync => rfl
  | colupf => rfl
  | colubk => rfl
  | ctrlpf => rfl
  | pf0 => rfl
  | pf1 => rfl
  | pf2 => rfl

section
variable {s : State} {r : RegId} {v : Byte} (hl : registerLegal r v)
include hl

/-- Step 1 of PROCESS on a legal pair that a write has left: the handler's effect, and an empty slot. -/
theorem applyPending_pending (hf : s.fatal = none) :
    applyPending (s.setPendingWrite (some (r, v))) = (applyHandler r v s).setPendingWrite none := by
  rw [applyPending_legal (s := s.setPendingWrite (some (r, v))) hf rfl hl, applyHandler_setPendingWrite]
  rfl

/-- A legal application leaves the chip live. -/
theorem applied_live (h : Live s) : Live ((applyHandler r v s).setPendingWrite none) := by
  obtain ⟨⟨hc, hv⟩, hf⟩ := h
  have ext := Extends.applyHandler r v s
  exact ⟨⟨ext.constructed.trans hc, (congrArg Params.valid ext.params).trans hv⟩, (applyHandler_legal hl s).trans hf⟩

omit hl in
/-- An application leaves the beam where it was. -/
theorem applied_onRaster (h : OnRaster s) : OnRaster ((applyHandler r v s).setPendingWrite none) := by
  obtain ⟨-, hx, hy, -, -, hp, -⟩ := applyHandler_frame r v s
  simpa only [OnRaster, State.setPendingWrite_gunX, State.setPendingWrite_gunY, State.setPendingWrite_params, hx, hy, hp]
    using h

/-- PROCESS after a legal write is the catch-up from the state with the write applied (20_memory.md R61). -/
theorem process_pending (hf : s.fatal = none) :
    process (s.setPendingWrite (some (r, v))) = catchUp ((applyHandler r v s).setPendingWrite none) := by
  rw [process, applyPending_pending hl hf]
  exact orHalted_none (s := (applyHandler r v s).setPendingWrite none) ((applyHandler_legal hl s).trans hf) _

theorem exec_process_pending (h : Idle s) (hr : OnRaster s) :
    exec (.process s.cycleNum) (s.setPendingWrite (some (r, v))) =
      exec .catchUp ((applyHandler r v s).setPendingWrite none) := by
  rw [exec_catchUp (applied_live hl h.1) (applied_onRaster hr), ← process_pending hl h.1.2]
  exact exec_process (s := s.setPendingWrite (some (r, v))) h hr

/-- No chip cycle fills the slot again. -/
theorem process_pending_clears (hf : s.fatal = none) :
    (process (s.setPendingWrite (some (r, v)))).pendingWrite = none := by
  rw [process_pending hl hf]
  exact (KeepsRegisters.catchUp _).pendingWrite

end

/-- Settles O14: step 1 of PROCESS turns the pair into the handler's effect before step 2 runs any chip cycle, and the
PROCESS before has reached its target. -/
theorem writeTakesEffectAtStartOfNextProcess : Obligations.WriteTakesEffectAtStartOfNextProcess := by
  intro s r v h ht hr hl
  have ⟨⟨_, hf⟩, hh⟩ := h
  refine ⟨exec_registerWrite_pending h ht r v, exec_process_pending hl h hr, fun t hx => ?_, fun c u hx => ?_⟩
  · obtain rfl := exec_process_next hx
    exact process_pending_clears hl hf
  · obtain rfl := exec_process_next hx
    exact process_reaches_target hf hh

end Sys2Proof.Machine

/-! PROOFS. The bus region (40_bus_access.md R91, R92): the addresses that it claims, and the object that hands it to the
bus. -/

namespace Sys2Proof.Machine

/-! ## The claimed addresses -/

theorem inRegion_eq_decide (p : Params) (addr : Nat) :
    inRegion p addr = decide (p.startAddr ≤ addr ∧ addr < p.endAddr) :=
  (Bool.decide_and _ _).symm

/-- The region of a valid parameter record is not empty (00_scope.md R7), so it claims its first address. -/
theorem inRegion_startAddr {p : Params} (h : p.valid = true) : inRegion p p.startAddr = true := by
  have ⟨hlt, _⟩ := valid_region h
  simp [inRegion, hlt]

/-- END_ADDR is one past the last claimed address, in every parameter record. -/
theorem inRegion_endAddr (p : Params) : inRegion p p.endAddr = false := by
  simp [inRegion]

/-! ## The two queries of the region -/

theorem exec_contains {s : State} (h : Idle s) (addr : Nat) :
    exec (.contains addr) s = .next (s.setAnswer (.claimed (inRegion s.params addr))) := by
  rw [exec, execContains, whenIdle_eq h]

theorem exec_getBusRegion {s : State} (h : Idle s) :
    exec .getBusRegion s = .next (s.setAnswer (.region (regionOf s.params))) := by
  rw [exec, execGetBusRegion, whenIdle_eq h]

/-- Settles O6: CONTAINS hands back `inRegion`, which is the half-open range; that START_ADDR is claimed needs a region
that is not empty, as a constructed chip has. -/
theorem containsAnswersHalfOpenRange : Obligations.ContainsAnswersHalfOpenRange := by
  intro s h
  have ⟨⟨⟨_, hv⟩, _⟩, _⟩ := h
  refine ⟨fun addr => ?_, ?_, ?_⟩
  · rw [exec_contains h, inRegion_eq_decide, State.setAnswer]
  · rw [exec_contains h, inRegion_startAddr hv, State.setAnswer]
  · rw [exec_contains h, inRegion_endAddr, State.setAnswer]

/-- Settles O7: the region that GET_BUS_REGION hands back has the bounds of P and the chip's own operations. -/
theorem getBusRegionReturnsBoundRegion : Obligations.GetBusRegionReturnsBoundRegion := by
  intro s h
  rw [exec_getBusRegion h, State.setAnswer, regionOf]

end Sys2Proof.Machine

/-! PROOFS. The register handlers (41_register_handlers.md): VSYNC and the two colours as their pairs are applied, and
the bit reversal REVn. -/

namespace Sys2Proof.Machine

/-! ## The application of a pair -/

section
variable {s : State} {r : RegId} {v : Byte} (h : Live s) (hp : s.pendingWrite = some (r, v))
include h hp

theorem exec_applyPending_legal (hl : registerLegal r v) :
    exec .applyPending s = .next ((applyHandler r v s).setPendingWrite none) := by
  rw [exec_applyPending h, applyPending_legal h.2 hp hl]

theorem exec_applyPending_illegal (hl : ¬ registerLegal r v) :
    exec .applyPending s = .next (raiseFatal (.invalidRegisterValue r v) s) := by
  rw [exec_applyPending h, applyPending_illegal hp hl]

end

/-! ## VSYNC -/

/-- A legal byte sets the mode to whether it is 0x02 (R101). -/
theorem hVsync_legal {v : Byte} (h : registerLegal .vsync v) (s : State) :
    hVsync v s = s.setVsyncMode (decide (v = 0x02#8)) := by
  rw [hVsync, if_pos (vsyncLegal_iff.mpr h), vsyncModeOf, beq_eq_decide]

/-- Settles O16: the two values are the legal ones of VSYNC, so the handler runs on them, and `raise Fatal` on the
others. -/
theorem vsyncRegisterTakesZeroOrTwo : Obligations.VsyncRegisterTakesZeroOrTwo := by
  intro s v h hp
  refine ⟨fun legal => ?_, fun h0 h2 => ?_⟩
  · rw [exec_applyPending_legal h hp legal, applyHandler, hVsync_legal legal]
    rfl
  · have illegal : ¬ registerLegal .vsync v := not_or.mpr ⟨h0, h2⟩
    rw [exec_applyPending_illegal h hp illegal]
    rfl

/-! ## The bit reversal -/

/-- REVn is its own inverse (R111). -/
@[simp] theorem rev_rev {n : Nat} (v : BitVec n) : rev (rev v) = v := BitVec.reverse_reverse_eq

/-- Settles O23: both laws hold at every width, and the samples of R111 are evaluated. -/
theorem bitReversalReversesAndIsAnInvolution : Obligations.BitReversalReversesAndIsAnInvolution := by
  refine ⟨fun n v => ⟨fun i hi => getLsbD_rev v i hi, rev_rev v⟩, ?_⟩
  decide

/-! ## The colours -/

/-- Settles O18: every byte is legal for both colours, and each handler sets its one field to it. -/
theorem colourRegistersStoreTheRawByte : Obligations.ColourRegistersStoreTheRawByte := by
  intro s v h
  refine ⟨fun hp => ?_, fun hp => ?_⟩
  · rw [exec_applyPending_legal h hp trivial, applyHandler, hColupf]
    rfl
  · rw [exec_applyPending_legal h hp trivial, applyHandler, hColubk]
    rfl

end Sys2Proof.Machine

/-! PROOFS. APPLY_PENDING and its place in PROCESS (42_cycle_synchronizer.md R120, R121). -/

namespace Sys2Proof.Machine

/-! ## APPLY_PENDING on a filled slot -/

section
variable {s : State} {r : RegId} {v : Byte} (hp : s.pendingWrite = some (r, v))
include hp

theorem applyPending_some :
    applyPending s = (applyHandler r v s).orHalted (State.setPendingWrite none) := by
  simp only [applyPending, hp]

theorem applyPending_handler_quiet (h : (applyHandler r v s).fatal = none) :
    applyPending s = (applyHandler r v s).setPendingWrite none :=
  (applyPending_some hp).trans (orHalted_none h _)

theorem applyPending_handler_fatal (h : (applyHandler r v s).fatal ≠ none) :
    applyPending s = applyHandler r v s := by
  obtain ⟨e, he⟩ := Option.ne_none_iff_exists'.mp h
  exact (applyPending_some hp).trans (orHalted_some he _)

/-- The handler itself leaves the slot as it is. -/
theorem applyHandler_keeps_pair : (applyHandler r v s).pendingWrite = some (r, v) := by
  obtain ⟨-, -, -, hw, -⟩ := applyHandler_frame r v s
  exact hw.trans hp

end

/-! ## The state between the two steps of PROCESS -/

theorem applyPending_live {s : State} (h : Live s) (hf : (applyPending s).fatal = none) : Live (applyPending s) := by
  obtain ⟨⟨hc, hv⟩, -⟩ := h
  have ext := Extends.applyPending s
  exact ⟨⟨ext.constructed.trans hc, (congrArg Params.valid ext.params).trans hv⟩, hf⟩

theorem applyPending_onRaster {s : State} (h : OnRaster s) : OnRaster (applyPending s) := by
  obtain ⟨-, hx, hy, -, hp, -⟩ := applyPending_frame s
  simpa only [OnRaster, hx, hy, hp] using h

section
variable {s : State} (h : Idle s) (hr : OnRaster s)
include h hr

/-- After an application that raised nothing, PROCESS goes on with CATCH_UP (R120). -/
theorem exec_process_eq_catchUp (hf : (applyPending s).fatal = none) :
    exec (.process s.cycleNum) s = exec .catchUp (applyPending s) := by
  have ⟨live, _⟩ := h
  rw [exec_process h hr, exec_catchUp (applyPending_live live hf) (applyPending_onRaster hr), process,
    orHalted_none hf]

/-- After a fatal application no chip cycle runs (R120, 60_exceptions.md R153). -/
theorem exec_process_eq_applyPending (hf : (applyPending s).fatal ≠ none) :
    exec (.process s.cycleNum) s = .next (applyPending s) := by
  obtain ⟨e, he⟩ := Option.ne_none_iff_exists'.mp hf
  rw [exec_process h hr, process, orHalted_some he]

end

/-- Settles O15: the slot is cleared only where the handler raised nothing, and PROCESS composes this step with CATCH_UP
under the same condition. -/
theorem applyPendingRunsHandlerThenClears : Obligations.ApplyPendingRunsHandlerThenClears := by
  intro s h
  rw [exec_applyPending h]
  refine ⟨fun hp => ?_, fun r v hp => ⟨fun quiet => ?_, fun fatal => ⟨?_, applyHandler_keeps_pair hp⟩⟩,
    fun idle hr => ⟨_, rfl, exec_process_eq_catchUp ⟨h, idle⟩ hr, exec_process_eq_applyPending ⟨h, idle⟩ hr⟩⟩
  · rw [applyPending_none hp]
  · rw [applyPending_handler_quiet hp quiet, State.setPendingWrite]
  · rw [applyPending_handler_fatal hp fatal]

end Sys2Proof.Machine

/-! PROOFS. The beam (43_beam_model.md R136): where one advance goes, and that the operations without an advance leave
the beam where it is. -/

namespace Sys2Proof.Machine

/-! ## One advance -/

theorem exec_beamAdvance {s : State} (h : Live s) (hr : OnRaster s) :
    exec .beamAdvance s = .next (beamAdvance s) := by
  rw [exec, execBeamAdvance, whenLive_eq h, whenOnRaster_eq hr]

section
variable {p : Params} {x y : Nat}

theorem nextBeam_in_line (hx : x + 1 ≠ p.lineLength) : nextBeam p x y = (x + 1, y) := if_neg hx

theorem nextBeam_end_of_line (hx : x + 1 = p.lineLength) (hy : y + 1 ≠ p.linesPerFrame) :
    nextBeam p x y = (0, y + 1) := by
  rw [nextBeam, if_pos hx, if_neg hy]

theorem nextBeam_end_of_frame (hx : x + 1 = p.lineLength) (hy : y + 1 = p.linesPerFrame) :
    nextBeam p x y = (0, 0) := by
  rw [nextBeam, if_pos hx, if_pos hy]

end

theorem beamAdvance_of_nextBeam {s : State} {x y : Nat} (h : nextBeam s.params s.gunX s.gunY = (x, y)) :
    beamAdvance s = s.setBeam x y := by
  rw [beamAdvance, h]

/-! ## The operations that leave the beam -/

/-- `t` has the beam position and the chip count of `s`. -/
structure KeepsBeam (s t : State) : Prop where
  gunX : t.gunX = s.gunX
  gunY : t.gunY = s.gunY
  chipCycleNum : t.chipCycleNum = s.chipCycleNum

namespace KeepsBeam

theorem busRead (addr : Nat) (s : State) : KeepsBeam s (busRead addr s) := by
  unfold Machine.busRead
  split <;> exact ⟨rfl, rfl, rfl⟩

theorem busWrite (addr : Nat) (v : Byte) (s : State) : KeepsBeam s (busWrite addr v s) := by
  unfold Machine.busWrite
  split <;> exact ⟨rfl, rfl, rfl⟩

theorem applyPending (s : State) : KeepsBeam s (applyPending s) := by
  obtain ⟨hc, hx, hy, -⟩ := applyPending_frame s
  exact ⟨hx, hy, hc⟩

theorem vsyncCheck (s : State) : KeepsBeam s (vsyncCheck s) := by
  rcases vsyncCheck_cases s with h | h <;> rw [h] <;> exact ⟨rfl, rfl, rfl⟩

theorem pixelEmit (s : State) : KeepsBeam s (pixelEmit s) := by
  rw [pixelEmit_eq]
  exact ⟨rfl, rfl, rfl⟩

end KeepsBeam

/-- An operation other than NEW and the four that advance the beam leaves it where it was (R136). -/
theorem Effect.keepsBeam {i : Instr} {s t : State} (h : Effect s i t) (hadv : i ≠ .beamAdvance)
    (hcycle : i ≠ .chipCycle) (hcatch : i ≠ .catchUp) (hprocess : ∀ c, i ≠ .process c) (hnew : ∀ a b, i ≠ .new a b) :
    KeepsBeam s t := by
  cases h with
  | new a b _ _ => exact absurd rfl (hnew a b)
  | query _ _ _ _ => exact ⟨rfl, rfl, rfl⟩
  | read addr _ => exact .busRead addr s
  | write _ addr v _ _ => exact .busWrite addr v s
  | process _ _ => exact absurd rfl (hprocess _)
  | mirrorRecompute _ => exact ⟨rfl, rfl, rfl⟩
  | applyPending _ => exact .applyPending s
  | catchUp _ _ => exact absurd rfl hcatch
  | chipCycle _ _ => exact absurd rfl hcycle
  | beamAdvance _ _ => exact absurd rfl hadv
  | vsyncCheck _ _ => exact .vsyncCheck s
  | pixelEmit _ _ => exact .pixelEmit s

/-- Settles O28: the three places of a position in its line and frame are the three branches of `nextBeam`, and every
other operation but the four and NEW keeps the beam (`Effect.keepsBeam`). -/
theorem beamAdvanceMovesOnePosition : Obligations.BeamAdvanceMovesOnePosition := by
  intro s h hr
  rw [exec_beamAdvance h hr]
  refine ⟨fun hx => ?_, fun hx hy => ?_, fun hx hy => ?_, fun i t hi hadv hcycle hcatch hprocess hnew => ?_⟩
  · rw [beamAdvance_of_nextBeam (nextBeam_in_line hx.ne), State.setBeam]
  · rw [beamAdvance_of_nextBeam (nextBeam_end_of_line hx hy.ne), State.setBeam]
  · rw [beamAdvance_of_nextBeam (nextBeam_end_of_frame hx hy), State.setBeam]
  · obtain ⟨hx, hy, -⟩ := (exec_next hi).keepsBeam hadv hcycle hcatch hprocess hnew
    exact ⟨hx, hy⟩

end Sys2Proof.Machine

/-! PROOFS. The exceptions (60_exceptions.md R155, R156): what an access without a handler leaves unchanged, and where an
illegal register value is raised. -/

namespace Sys2Proof.Machine

/-! ## An access without a handler -/

theorem exec_busRead {s : State} (h : Idle s) (addr : Nat) : exec (.busRead addr) s = .next (busRead addr s) := by
  rw [exec, execBusRead, whenIdle_eq h]

theorem busRead_miss {s : State} {addr : Nat} (h : lookup s.params s.readTable addr = none) :
    busRead addr s = (s.report (.invalidAddress (.read addr))).setAnswer (.byte 0x00#8) := by
  simp only [busRead, h]

@[simp] theorem chip_report (d : DiagEvent) (s : State) : (s.report d).chip = s.chip := rfl

@[simp] theorem chip_setAnswer (a : Answer) (s : State) : (s.setAnswer a).chip = s.chip := rfl

/-- Settles O11: on a miss both transactions only report, which is outside S, and a read also answers; with no read handler
no slot of RT is filled. -/
theorem invalidAddressIsReportedAndHarmless : Obligations.InvalidAddressIsReportedAndHarmless := by
  intro s h
  refine ⟨fun addr miss => ⟨_, exec_busRead h addr, ?_⟩, fun addr v miss => ⟨_, exec_busWrite h addr v, ?_⟩, ?_⟩
  · rw [busRead_miss miss]
    exact ⟨by simp only [chip_setAnswer, chip_report], State.setAnswer_answer _ _, rfl⟩
  · rw [busWrite_miss miss]
    exact ⟨chip_report _ _, rfl⟩
  · rintro ⟨-, readTable⟩ empty addr
    rw [readTable, lookup_buildReadTable_empty empty]

/-! ## An illegal register value: the write -/

/-- With the tables of NEW a write to a register's address hits, and only fills the slot (40_bus_access.md R95). -/
theorem exec_busWrite_addrOf {s : State} (h : Idle s) (ht : TablesBuilt s) (r : RegId) (v : Byte) :
    exec (.busWrite (s.params.addrOf r) v) s = .next (s.setPendingWrite (some (r, v))) := by
  have row := exec_registerWrite_pending h ht r v
  rw [exec_registerWrite, writeRegister, whenIdle_eq h] at row
  exact (exec_busWrite h _ v).trans row

/-- Of two writes to registers the second is left in the slot (20_memory.md R62). -/
theorem execAll_two_register_writes {s : State} (h : Idle s) (ht : TablesBuilt s) (r r' : RegId) (v v' : Byte) :
    execAll [.busWrite (s.params.addrOf r) v, .busWrite (s.params.addrOf r') v'] s =
      .next (s.setPendingWrite (some (r', v'))) :=
  have second := exec_busWrite_addrOf (s := s.setPendingWrite (some (r, v))) h ht r' v'
  (execAll_cons_next (exec_busWrite_addrOf h ht r v)).trans (execAll_cons_next second)

/-! ## An illegal register value: the PROCESS -/

/-- Only VSYNC and VBLANK refuse a byte. -/
theorem eq_vsync_or_vblank_of_illegal {r : RegId} {v : Byte} (h : ¬ registerLegal r v) : r = .vsync ∨ r = .vblank := by
  cases r with
  | vsync => exact .inl rfl
  | vblank => exact .inr rfl
  | _ => exact absurd trivial h

/-- PROCESS on an illegal pair ends with step 1, whose only effect is the condition (42_cycle_synchronizer.md R121). -/
theorem process_illegal {s : State} {r : RegId} {v : Byte} (hp : s.pendingWrite = some (r, v))
    (hl : ¬ registerLegal r v) : process s = raiseFatal (.invalidRegisterValue r v) s := by
  rw [process, applyPending_illegal hp hl, orHalted_some (raiseFatal_fatal _ _)]

/-- No InvalidRegisterValue is latched. -/
def NoRegisterValueLatched (s : State) : Prop := ∀ r v, s.fatal ≠ some (.invalidRegisterValue r v)

namespace NoRegisterValueLatched

theorem of_none {s : State} (h : s.fatal = none) : NoRegisterValueLatched s := by
  simp [NoRegisterValueLatched, h]

theorem congr {s t : State} (h : NoRegisterValueLatched s) (e : t.fatal = s.fatal) : NoRegisterValueLatched t := by
  rwa [NoRegisterValueLatched, e]

theorem orHalted {s : State} {f : State → State} (h : NoRegisterValueLatched s)
    (hf : ∀ u, NoRegisterValueLatched u → NoRegisterValueLatched (f u)) : NoRegisterValueLatched (s.orHalted f) :=
  orHalted_cases (fun _ => hf s h) fun _ _ => h

/-- The check of a chip cycle raises the two vertical-sync conditions only (43_beam_model.md R138). -/
theorem vsyncCheck {s : State} (h : NoRegisterValueLatched s) : NoRegisterValueLatched (vsyncCheck s) := by
  rcases vsyncCheck_cases s with e | e <;> rw [e]
  · exact h
  · intro r v
    rw [raiseFatal_fatal, violation]
    split <;> simp

theorem emitAndCount {s : State} (h : NoRegisterValueLatched s) : NoRegisterValueLatched (emitAndCount s) :=
  h.congr (by simp only [Machine.emitAndCount, pixelEmit_eq, State.setChipCycleNum_fatal])

theorem chipCycle {s : State} (h : NoRegisterValueLatched s) : NoRegisterValueLatched (chipCycle s) :=
  (h.congr (beamAdvance_fatal s)).vsyncCheck.orHalted fun _ => emitAndCount

theorem runChipCycles (n : Nat) {s : State} (h : NoRegisterValueLatched s) :
    NoRegisterValueLatched (runChipCycles n s) := by
  induction n generalizing s with
  | zero => exact h
  | succ n ih => exact h.chipCycle.orHalted fun _ hu => ih hu

theorem catchUp {s : State} (h : NoRegisterValueLatched s) : NoRegisterValueLatched (catchUp s) := by
  unfold Machine.catchUp
  split
  · exact h.congr (State.setHung_fatal _ _)
  · exact h.runChipCycles _

/-- Step 1 raises nothing on a legal pair, and step 2 raises no InvalidRegisterValue. -/
theorem process {s : State} {r : RegId} {v : Byte} (hf : s.fatal = none) (hp : s.pendingWrite = some (r, v))
    (hl : registerLegal r v) : NoRegisterValueLatched (process s) := by
  have quiet : (applyPending s).fatal = none := by
    rw [applyPending_legal hf hp hl, State.setPendingWrite_fatal, applyHandler_legal hl, hf]
  exact (of_none quiet).orHalted fun _ => catchUp

end NoRegisterValueLatched

/-- Settles O22: a write to a register only fills the slot, `raise Fatal` stands in the PROCESS that applies an illegal pair,
and nothing in the PROCESS of a legal pair latches the condition (`NoRegisterValueLatched.process`). -/
theorem invalidRegisterValueIsRaisedOnlyWhenApplied : Obligations.InvalidRegisterValueIsRaisedOnlyWhenApplied := by
  intro s h hr ht
  have ⟨⟨_, hf⟩, _⟩ := h
  refine ⟨exec_busWrite_addrOf h ht, fun r v r' v' => execAll_two_register_writes h ht r r' v v',
    fun r v hp illegal => ⟨eq_vsync_or_vblank_of_illegal illegal, ?_⟩, fun r v t hp legal hx => ?_⟩
  · rw [exec_process h hr, process_illegal hp illegal]
    rfl
  · obtain rfl := exec_process_next hx
    exact NoRegisterValueLatched.process hf hp legal

end Sys2Proof.Machine

/-! PROOFS. What every step keeps (10_state.md sections 4 and 6): one case for each way in which a step goes on, and from
these cases the mask invariant, the fatal latch, the run invariant, and what stays fixed or only grows. -/

namespace Sys2Proof.Machine

/-! ## The ways in which a step goes on -/

/-- The next states of a step, by what it performed (60_exceptions.md R160, R173). -/
inductive StepEffect (s : State) : State → Prop where
  | idle : StepEffect s s
  | stop (rest : List Input) : StepEffect s ((s.setInbox rest).setStopFlag true)
  | hungCycle (hh : s.hung = true) (hl : Live s) (hr : OnRaster s) : StepEffect s (hungCycle s)
  | advance (n : Nat) (rest : List Input) (hi : Idle s) :
      StepEffect s ((((s.setInbox rest).setCycleNum (s.cycleNum + n)).setAtBoundary false).setRegionDue false)
  | operation (i : Instr) (rest : List Input) (t : State) (hh : s.hung = false) (hv : refusalOf s i = none)
      (h : Effect (s.taking i rest) i t) : StepEffect s t

theorem step_effect {s t : State} (h : step s = .next t) : StepEffect s t := by
  rcases step_next h with ⟨hh, ⟨rest, -, rfl⟩ | ⟨-, hl, hr, rfl⟩⟩ | ⟨hh, ⟨-, rfl⟩ | ⟨rest, hcase⟩⟩
  · exact .stop rest
  · exact .hungCycle hh hl hr
  · exact .idle
  · rcases hcase with ⟨n, -, -, hi, rfl⟩ | ⟨-, rfl⟩ | ⟨r, i, -, -, hv, hx⟩
    · exact .advance n rest hi
    · exact .stop rest
    · exact .operation i rest t hh hv (exec_next hx)

theorem Live.constructed {s : State} (h : Live s) : s.constructed = true := h.1.1
theorem Live.valid {s : State} (h : Live s) : s.params.valid = true := h.1.2
theorem Live.fatal {s : State} (h : Live s) : s.fatal = none := h.2
theorem Idle.live {s : State} (h : Idle s) : Live s := h.1
theorem Idle.hung {s : State} (h : Idle s) : s.hung = false := h.2
theorem Idle.constructed {s : State} (h : Idle s) : s.constructed = true := h.live.constructed

/-- NEW has a step before construction only, and every other operation on a live chip only (40_bus_access.md R90,
60_exceptions.md R154). -/
theorem Effect.live_or_new {i : Instr} {s t : State} (h : Effect s i t) :
    Live s ∨ ∃ a b, i = .new a b ∧ s.constructed = false ∧ (boundedParams s.params a b).valid = true ∧
      t = construct (boundedParams s.params a b) s := by
  cases h with
  | new a b hc hv => exact .inr ⟨a, b, rfl, hc, hv, rfl⟩
  | read _ hi => exact .inl hi.live
  | write _ _ _ hi _ => exact .inl hi.live
  | process hi _ => exact .inl hi.live
  | query _ _ hl _ => exact .inl hl
  | mirrorRecompute hl => exact .inl hl
  | applyPending hl => exact .inl hl
  | catchUp hl _ => exact .inl hl
  | chipCycle hl _ => exact .inl hl
  | beamAdvance hl _ => exact .inl hl
  | vsyncCheck hl _ => exact .inl hl
  | pixelEmit hl _ => exact .inl hl

theorem Effect.live {i : Instr} {s t : State} (h : Effect s i t) (hc : s.constructed = true) : Live s := by
  rcases h.live_or_new with hl | ⟨_, _, _, hn, _⟩
  · exact hl
  · rw [hc] at hn; cases hn

/-! ## The mask invariant -/

theorem KeepsRegisters.maskExtended {s t : State} (h : KeepsRegisters s t) (hm : MaskExtended s) : MaskExtended t := by
  rwa [MaskExtended, h.playfieldMask, h.playfieldMirrored]

theorem applyPending_extended {s : State} (hm : MaskExtended s) : MaskExtended (applyPending s) := by
  cases hp : s.pendingWrite with
  | none => rwa [applyPending_none hp]
  | some w =>
    have handled : MaskExtended (applyHandler w.1 w.2 s) := applyHandler_extended hm w.1 w.2
    rw [applyPending_some (r := w.1) (v := w.2) hp]
    exact orHalted_cases (P := MaskExtended) (fun _ => handled) fun _ _ => handled

/-- The mask of INIT is extended (10_state.md R40, R42). -/
abbrev InitExtended (p : Params) : Prop :=
  highHalf p.init.playfieldMask = upper (lowHalf p.init.playfieldMask) p.init.playfieldMirrored

/-- Every operation keeps the mask extended, and NEW takes the mask of INIT (10_state.md R40). -/
theorem Effect.maskExtended {i : Instr} {s t : State} (h : Effect s i t) (hinit : InitExtended s.params)
    (hm : s.constructed = true → MaskExtended s) : MaskExtended t := by
  cases h with
  | new a b _ _ => exact hinit
  | query _ _ hl _ => exact hm hl.constructed
  | read addr hi =>
    have before := hm hi.constructed
    unfold busRead
    split <;> exact before
  | write _ addr v hi _ =>
    have before := hm hi.constructed
    unfold busWrite
    split <;> exact before
  | process hi _ => exact (KeepsRegisters.process s).maskExtended (applyPending_extended (hm hi.constructed))
  | mirrorRecompute _ => exact mirrorRecompute_extended s
  | applyPending hl => exact applyPending_extended (hm hl.constructed)
  | catchUp hl _ => exact (KeepsRegisters.catchUp s).maskExtended (hm hl.constructed)
  | chipCycle hl _ => exact (KeepsRegisters.chipCycle s).maskExtended (hm hl.constructed)
  | beamAdvance hl _ => exact hm hl.constructed
  | vsyncCheck hl _ => exact (KeepsRegisters.vsyncCheck s).maskExtended (hm hl.constructed)
  | pixelEmit hl _ => exact (KeepsRegisters.pixelEmit s).maskExtended (hm hl.constructed)

/-- No operation writes INIT: NEW sets the two bounds of P only. -/
theorem Effect.init {i : Instr} {s t : State} (h : Effect s i t) : t.params.init = s.params.init := by
  rcases h.live_or_new with hl | ⟨a, b, -, -, -, rfl⟩
  · rw [(h.extends hl.constructed).params]
  · rfl

/-- Settles O27: of the ways in which a step goes on only an operation can touch the mask, and `Effect.maskExtended` says
that it keeps the invariant. -/
theorem everyStepKeepsTheMaskExtended : Obligations.EveryStepKeepsTheMaskExtended := by
  intro s t h hm hinit
  cases step_effect h with
  | idle => exact ⟨hm, hinit⟩
  | stop rest => exact ⟨hm, hinit⟩
  | hungCycle hh hl hr =>
    have keeps := KeepsRegisters.hungCycle s
    exact ⟨fun _ => keeps.maskExtended (hm hl.constructed), by rw [keeps.params]; exact hinit⟩
  | advance n rest hi => exact ⟨hm, hinit⟩
  | operation i rest _ hh hv hx =>
    exact ⟨fun _ => hx.maskExtended hinit hm, by rw [hx.init]; exact hinit⟩

/-! ## The fatal latch -/

/-- Settles O43: on a chip with a latched condition neither an operation nor the CPU's advance nor a chip cycle has a step,
so only the stop flag and the inbox can still change. -/
theorem fatalLatchIsNeverCleared : Obligations.FatalLatchIsNeverCleared := by
  intro s t e hc hf h
  have dead : ¬ Live s := fun hl => by rw [hl.fatal] at hf; cases hf
  cases step_effect h with
  | idle => exact ⟨hf, rfl, rfl, rfl⟩
  | stop rest => exact ⟨hf, rfl, rfl, rfl⟩
  | hungCycle hh hl hr => exact absurd hl dead
  | advance n rest hi => exact absurd hi.live dead
  | operation i rest _ hh hv hx => exact absurd (hx.live hc) dead

/-- A condition that was not there before is the one that was raised. -/
theorem Raises.reported {s t : State} {e : FatalEvent} (h : Raises s t) (hs : s.fatal = none) (ht : t.fatal = some e) :
    t.diag = s.diag ++ [.fatal e] ∧ e ≠ .playfieldAccumulation := by
  rcases h with ⟨same, -⟩ | ⟨e', he, hf, hd⟩
  · rw [same, hs] at ht; cases ht
  · rw [hf] at ht
    cases ht
    exact ⟨hd, he⟩

/-- An operation latches nothing, or raises one condition. -/
theorem Effect.quiet_or_raises {i : Instr} {s t : State} (h : Effect s i t) (hs : s.fatal = none) :
    t.fatal = none ∨ Raises s t := by
  cases h with
  | new a b _ _ => exact .inl rfl
  | query _ a _ _ => exact .inl hs
  | read addr _ =>
    unfold busRead
    split <;> exact .inl hs
  | write _ addr v _ _ =>
    unfold busWrite
    split <;> exact .inl hs
  | process _ _ => exact .inr (.process hs)
  | mirrorRecompute _ => exact .inl hs
  | applyPending _ => exact .inr (.applyPending hs)
  | catchUp _ _ => exact .inr (.catchUp hs)
  | chipCycle _ _ => exact .inr (.chipCycle hs)
  | beamAdvance _ _ => exact .inl hs
  | vsyncCheck _ _ => exact .inr (.vsyncCheck s)
  | pixelEmit _ _ => exact .inr (.pixelEmit s)

/-- Settles O44: only an operation latches anything, and what it latched it raised and reported (`Raises`). -/
theorem fatalConditionIsReportedOnce : Obligations.FatalConditionIsReportedOnce := by
  intro s t e hs h ht
  have unlatched : s.fatal ≠ some e := by rw [hs]; exact Option.some_ne_none e |>.symm
  cases step_effect h with
  | idle => exact absurd ht unlatched
  | stop rest => exact absurd ht unlatched
  | hungCycle hh hl hr => exact absurd ((Raises.hungCycle s).1.symm.trans ht) unlatched
  | advance n rest hi => exact absurd ht unlatched
  | operation i rest _ hh hv hx =>
    rcases hx.quiet_or_raises hs with quiet | raises
    · rw [quiet] at ht; cases ht
    · exact raises.reported hs ht

/-! ## The run invariant -/

/-- The part of the run invariant that speaks of a constructed chip at any time, at a boundary or not. -/
structure Tracked (s : State) : Prop where
  valid : s.params.valid = true
  tables : TablesBuilt s
  onRaster : OnRaster s
  beam : BeamTracksCycles s
  count : s.chipCycleNum ≤ s.target

/-- The chip that NEW constructs, with the counter at CYCLE_INIT (10_state.md R42). -/
theorem construct_tracked {p : Params} {s : State} (hv : p.valid = true) (hc : s.cycleNum = p.cycleInit) :
    Tracked (construct p s) := by
  have ⟨hx, hy⟩ := valid_init hv
  refine ⟨hv, ⟨rfl, rfl⟩, ⟨hx, hy⟩, ⟨?_, ?_⟩, Nat.le_refl _⟩
  · exact (congrArg (p.cycleRatio * ·) hc.symm).le
  · have start : p.initBeam = (p.cycleRatio * s.cycleNum + 0 - p.cycleRatio * p.cycleInit + p.initBeam)
        % p.frameLength := by
      rw [hc, Nat.add_zero, Nat.sub_self, Nat.zero_add]
      exact (Nat.mod_eq_of_lt (index_lt hx hy)).symm
    exact start

/-- An application moves neither the beam nor the chip count, and no counter backwards. -/
theorem applyPending_tracked {s : State} (h : Tracked s) (hf : s.fatal = none) : Tracked (applyPending s) := by
  have ext := Extends.applyPending s
  obtain ⟨hn, hx, hy, -, hp, -⟩ := applyPending_frame s
  refine ⟨by rw [hp]; exact h.valid, ?_, applyPending_onRaster h.onRaster, ?_, ?_⟩
  · rw [TablesBuilt, ext.writeTable, ext.readTable, hp]
    exact h.tables
  · have counted : uncounted (applyPending s).fatal = uncounted s.fatal := by
      rw [applyPending_uncounted hf, hf]
      rfl
    simpa only [BeamTracksCycles, beamIndex, counted, hn, hx, hy, hp] using h.beam
  · rw [hn, State.target, hp]
    exact h.count.trans (Nat.mul_le_mul_left _ ext.cycleNum)

/-- A catch-up whose target is not below the count does not hang, and counts up to its target at most. -/
theorem catchUp_tracked {s : State} (h : Tracked s) (hf : s.fatal = none) (hh : s.hung = false) :
    Tracked (catchUp s) ∧ (catchUp s).hung = false := by
  have keeps := KeepsRegisters.catchUp s
  have ext := Extends.catchUp s
  have due := h.count
  have run : catchUp s = runChipCycles (s.target - s.chipCycleNum) s := if_neg (Nat.not_lt.mpr due)
  obtain ⟨hr, hb, -, hn⟩ := runChipCycles_tracks (s.target - s.chipCycleNum) h.valid h.onRaster hf h.beam
  rw [← run] at hr hb hn
  refine ⟨⟨by rw [ext.params]; exact h.valid, ?_, hr, hb, ?_⟩, ?_⟩
  · rw [TablesBuilt, ext.writeTable, ext.readTable, ext.params]
    exact h.tables
  · rw [keeps.target]
    omega
  · rw [run, runChipCycles_hung, hh]

theorem process_tracked {s : State} (h : Tracked s) (hf : s.fatal = none) (hh : s.hung = false) :
    Tracked (process s) ∧ (process s).hung = false := by
  have applied := applyPending_tracked h hf
  obtain ⟨-, -, -, -, -, hung⟩ := applyPending_frame s
  exact orHalted_cases (P := fun t => Tracked t ∧ t.hung = false)
    (fun quiet => catchUp_tracked applied quiet (hung.trans hh)) fun _ _ => ⟨applied, hung.trans hh⟩

/-- Where PROCESS returns without a condition the cycle invariant holds (10_state.md R38). -/
theorem process_boundary {s : State} (hf : s.fatal = none) (hh : (process s).hung = false)
    (quiet : (process s).fatal = none) :
    (process s).pendingWrite = none ∧ (process s).chipCycleNum = (process s).target := by
  refine ⟨?_, process_reaches_target quiet hh⟩
  rw [(KeepsRegisters.process s).pendingWrite]
  refine applyPending_clears hf ?_
  cases hp : (applyPending s).fatal with
  | none => rfl
  | some e => rw [process, orHalted_some hp, hp] at quiet; cases quiet

/-- Taking an input changes the surroundings' fields only. -/
theorem taking_tracked {s : State} (h : Tracked s) (i : Instr) (rest : List Input) : Tracked (s.taking i rest) :=
  ⟨h.valid, h.tables, h.onRaster, h.beam, h.count⟩

theorem runInvariant_of_tracked {t : State} (hh : t.hung = false) (hc : t.constructed = true) (h : Tracked t)
    (boundary : CycleInvariant t) : RunInvariant t :=
  ⟨hh, fun hn => absurd (hn.symm.trans hc) Bool.false_ne_true,
    fun _ => ⟨h.valid, h.tables, h.onRaster, h.beam, h.count, boundary⟩⟩

theorem RunInvariant.tracked {s : State} (h : RunInvariant s) (hc : s.constructed = true) :
    Tracked s ∧ CycleInvariant s := by
  obtain ⟨-, -, hcon⟩ := h
  obtain ⟨valid, tables, onRaster, beam, count, boundary⟩ := hcon hc
  exact ⟨⟨valid, tables, onRaster, beam, count⟩, boundary⟩

theorem boundaryAfter_write {i : Instr} {addr : Nat} {v : Byte} {p : Params} (b : Bool)
    (hw : i = .busWrite addr v ∨ ∃ r, i = registerWrite r v ∧ addr = p.addrOf r) : boundaryAfter i b = false := by
  rcases hw with rfl | ⟨r, rfl, -⟩
  · rfl
  · cases r <;> rfl

/-- What a bus access keeps of the run invariant: all of it but the boundary, at which no access stands. -/
theorem Tracked.congr {s t : State} (h : Tracked s) (ext : Extends s t) (beam : KeepsBeam s t)
    (hf : t.fatal = s.fatal) (hn : t.cycleNum = s.cycleNum) : Tracked t := by
  obtain ⟨hx, hy, hc⟩ := beam
  refine ⟨by rw [ext.params]; exact h.valid, ?_, ?_, ?_, ?_⟩
  · rw [TablesBuilt, ext.writeTable, ext.readTable, ext.params]
    exact h.tables
  · simpa only [OnRaster, hx, hy, ext.params] using h.onRaster
  · simpa only [BeamTracksCycles, beamIndex, hc, hx, hy, hf, ext.params] using h.beam
  · simpa only [State.target, hc, hn, ext.params] using h.count

theorem busRead_quiet (addr : Nat) (s : State) :
    (busRead addr s).fatal = s.fatal ∧ (busRead addr s).cycleNum = s.cycleNum ∧ (busRead addr s).hung = s.hung := by
  unfold busRead
  split <;> exact ⟨rfl, rfl, rfl⟩

theorem busWrite_quiet (addr : Nat) (v : Byte) (s : State) :
    (busWrite addr v s).fatal = s.fatal ∧ (busWrite addr v s).cycleNum = s.cycleNum ∧
      (busWrite addr v s).hung = s.hung := by
  unfold busWrite
  split <;> exact ⟨rfl, rfl, rfl⟩

/-- Every host-visible operation establishes the run invariant, from a state `u` whose boundary is the one after the
operation, `b` being the one before. -/
theorem Effect.runInvariant {i : Instr} {u t : State} {b : Bool} (h : Effect u i t) (hv : hostVisible i = true)
    (hh : u.hung = false) (hstart : u.constructed = false → u.cycleNum = u.params.cycleInit)
    (tracked : u.constructed = true → Tracked u) (hb : u.atBoundary = boundaryAfter i b)
    (before : u.constructed = true → u.fatal = none → b = true → u.pendingWrite = none ∧ u.chipCycleNum = u.target) :
    RunInvariant t := by
  have inside {t : State} (ext : Extends u t) (hn : boundaryAfter i b = false) : CycleInvariant t := by
    intro _ hat
    rw [ext.atBoundary, hb, hn] at hat
    cases hat
  cases h with
  | new a b' hc hp =>
    exact runInvariant_of_tracked rfl rfl (construct_tracked hp (hstart hc)) fun _ _ => ⟨rfl, rfl⟩
  | query _ a hl hq =>
    have hc := hl.constructed
    refine runInvariant_of_tracked hh hc ((tracked hc).congr .quiet ⟨rfl, rfl, rfl⟩ rfl rfl) fun hf hat => ?_
    exact before hc hf (boundaryAfter_query hq (hb.symm.trans hat))
  | read addr hi =>
    have hc := hi.constructed
    have ext := Extends.busRead addr u
    obtain ⟨qf, qn, qh⟩ := busRead_quiet addr u
    exact runInvariant_of_tracked (qh.trans hh) (ext.constructed.trans hc)
      ((tracked hc).congr ext (.busRead addr u) qf qn) (inside ext rfl)
  | write _ addr v hi hw =>
    have hc := hi.constructed
    have ext := Extends.busWrite addr v u
    obtain ⟨qf, qn, qh⟩ := busWrite_quiet addr v u
    exact runInvariant_of_tracked (qh.trans hh) (ext.constructed.trans hc)
      ((tracked hc).congr ext (.busWrite addr v u) qf qn) (inside ext (boundaryAfter_write b hw))
  | process hi hr =>
    obtain ⟨⟨⟨hc, -⟩, hf⟩, -⟩ := hi
    obtain ⟨htracked, hung⟩ := process_tracked (tracked hc) hf hh
    exact runInvariant_of_tracked hung ((Extends.process u).constructed.trans hc) htracked
      fun quiet _ => process_boundary hf hung quiet
  | _ => cases hv

/-- Settles O47: the CPU's advance only raises the target and leaves the boundary, no PROCESS hangs, and an operation is
`Effect.runInvariant`. -/
theorem everyStepKeepsTheRunInvariant : Obligations.EveryStepKeepsTheRunInvariant := by
  intro s t hs h
  have ⟨hh, hstart, _⟩ := hs
  cases step_effect h with
  | idle => exact hs
  | stop rest => exact hs
  | hungCycle hung hl hr => rw [hh] at hung; cases hung
  | advance n rest hi =>
    have hc := hi.constructed
    obtain ⟨tracked, -⟩ := hs.tracked hc
    have later : s.target ≤ s.params.cycleRatio * (s.cycleNum + n) := Nat.mul_le_mul_left _ (Nat.le_add_right _ _)
    exact runInvariant_of_tracked hh hc
      ⟨tracked.valid, tracked.tables, tracked.onRaster, tracked.beam, tracked.count.trans later⟩
      fun _ hat => Bool.noConfusion hat
  | operation i rest _ _ hv hx =>
    obtain ⟨visible, -, -⟩ := refusalOf_eq_none.mp hv
    exact hx.runInvariant (b := s.atBoundary) visible hh hstart (fun hc => taking_tracked (hs.tracked hc).1 i rest) rfl
      fun hc => (hs.tracked hc).2

/-- Settles O48: the driving loop has left at a boundary of a live chip, where the run invariant includes the cycle
invariant. -/
theorem stoppedRunEndsClean : Obligations.StoppedRunEndsClean := by
  intro s hs hc hend
  obtain ⟨-, boundary⟩ := hs.tracked hc
  have left : s.stopFlag = true ∧ s.atBoundary = true ∧ s.fatal = none := by
    rcases hend with stopped | left
    · obtain ⟨-, left⟩ := step_stopped stopped
      simpa [State.loopLeft, and_assoc] using left
    · exact left
  obtain ⟨hstop, hat, hf⟩ := left
  exact ⟨hstop, hf, hs.1, boundary hf hat⟩

/-! ## What stays fixed and what only grows -/

/-- `t` has the configuration of `s`, a counter no lower, the streams of `s` with something appended, and no start-up
that was over in `s`. -/
structure Grows (s t : State) : Prop where
  constructed : t.constructed = s.constructed
  params : t.params = s.params
  writeTable : t.writeTable = s.writeTable
  readTable : t.readTable = s.readTable
  regionDue : s.regionDue = false → t.regionDue = false
  cycleNum : s.cycleNum ≤ t.cycleNum
  video : s.video <+: t.video
  diag : s.diag <+: t.diag

theorem Extends.grows {s t : State} (h : Extends s t) : Grows s t :=
  ⟨h.constructed, h.params, h.writeTable, h.readTable, h.regionDue.trans, h.cycleNum, h.video, h.diag⟩

/-- No operation but NEW makes GET_BUS_REGION due again (70_reset_and_hazards.md R182). -/
theorem regionDueAfter_eq_false {i : Instr} (h : ∀ a b, i ≠ .new a b) : regionDueAfter i = false := by
  cases i with
  | new a b => exact absurd rfl (h a b)
  | _ => rfl

theorem Effect.ne_new {i : Instr} {s t : State} (h : Effect s i t) (hc : s.constructed = true) (a b : Nat) :
    i ≠ .new a b := by
  rintro rfl
  cases h with
  | new _ _ hn _ => rw [hc] at hn; cases hn
  | query _ _ _ hq => simp at hq
  | write _ _ _ _ hw => cases hasBusFormat_of_write hw

/-- Every step of a constructed chip. -/
theorem StepEffect.grows {s t : State} (h : StepEffect s t) (hc : s.constructed = true) : Grows s t := by
  cases h with
  | idle => exact (Extends.refl s).grows
  | stop rest => exact ⟨rfl, rfl, rfl, rfl, id, Nat.le_refl _, List.prefix_refl _, List.prefix_refl _⟩
  | hungCycle hh hl hr => exact (Extends.hungCycle s).grows
  | advance n rest hi =>
    exact ⟨rfl, rfl, rfl, rfl, fun _ => rfl, Nat.le_add_right _ _, List.prefix_refl _, List.prefix_refl _⟩
  | operation i rest _ hh hv hx =>
    have ext := hx.extends hc
    exact ⟨ext.constructed, ext.params, ext.writeTable, ext.readTable,
      fun _ => ext.regionDue.trans (regionDueAfter_eq_false (hx.ne_new hc)), ext.cycleNum, ext.video, ext.diag⟩

/-- Settles O50: what a step keeps of the configuration is part of `Grows`. -/
theorem configurationIsFixedAfterNew : Obligations.ConfigurationIsFixedAfterNew := by
  intro s t hc h
  have grows := (step_effect h).grows hc
  exact ⟨grows.constructed.trans hc, grows.params, grows.writeTable, grows.readTable, grows.regionDue⟩

/-- Settles O51: what a step appends to the streams is part of `Grows`. -/
theorem streamsAreAppendOnly : Obligations.StreamsAreAppendOnly := by
  intro s t hc h
  have grows := (step_effect h).grows hc
  exact ⟨grows.video, grows.diag⟩

/-- Before construction too no step decreases the counter: NEW only reads it (40_bus_access.md R90). -/
theorem StepEffect.cycleNum_le {s t : State} (h : StepEffect s t) : s.cycleNum ≤ t.cycleNum := by
  cases hc : s.constructed with
  | true => exact (h.grows hc).cycleNum
  | false =>
    have dead : ¬ Live s := fun hl => by rw [hl.constructed] at hc; cases hc
    cases h with
    | idle => exact Nat.le_refl _
    | stop rest => exact Nat.le_refl _
    | hungCycle hh hl hr => exact absurd hl dead
    | advance n rest hi => exact absurd hi.live dead
    | operation i rest _ hh hv hx =>
      rcases hx.live_or_new with hl | ⟨a, b, -, -, -, rfl⟩
      · exact absurd hl dead
      · exact Nat.le_refl _

/-! ## What one operation changes -/

/-- `t` has the registers and the counter of `s`. -/
structure SameRegisters (s t : State) : Prop where
  vsyncMode : t.vsyncMode = s.vsyncMode
  vblankMode : t.vblankMode = s.vblankMode
  playfieldMask : t.playfieldMask = s.playfieldMask
  playfieldMirrored : t.playfieldMirrored = s.playfieldMirrored
  playfieldColor : t.playfieldColor = s.playfieldColor
  backgroundColor : t.backgroundColor = s.backgroundColor
  cycleNum : t.cycleNum = s.cycleNum

theorem KeepsRegisters.sameRegisters {s t : State} (h : KeepsRegisters s t) : SameRegisters s t :=
  ⟨h.vsyncMode, h.vblankMode, h.playfieldMask, h.playfieldMirrored, h.playfieldColor, h.backgroundColor, h.cycleNum⟩

theorem SameRegisters.busRead (addr : Nat) (s : State) : SameRegisters s (busRead addr s) := by
  unfold Machine.busRead
  split <;> exact ⟨rfl, rfl, rfl, rfl, rfl, rfl, rfl⟩

theorem SameRegisters.busWrite (addr : Nat) (v : Byte) (s : State) : SameRegisters s (busWrite addr v s) := by
  unfold Machine.busWrite
  split <;> exact ⟨rfl, rfl, rfl, rfl, rfl, rfl, rfl⟩

/-- The two operations that apply the pending pair (42_cycle_synchronizer.md R120, R121). -/
abbrev AppliesPending (i : Instr) : Prop := i = .applyPending ∨ ∃ c, i = .process c

/-- The registers and the counter after an operation other than NEW are those of APPLY_PENDING, where the operation applies
the pending pair, those of MIRROR_RECOMPUTE, or the old ones (10_state.md section 3). -/
theorem Effect.registers {i : Instr} {s t : State} (h : Effect s i t) (hnew : ∀ a b, i ≠ .new a b) :
    (AppliesPending i ∧ SameRegisters (Machine.applyPending s) t) ∨
      (i = .mirrorRecompute ∧ SameRegisters (Machine.mirrorRecompute s) t) ∨ SameRegisters s t := by
  cases h with
  | new a b _ _ => exact absurd rfl (hnew a b)
  | query _ a _ _ => exact .inr (.inr ⟨rfl, rfl, rfl, rfl, rfl, rfl, rfl⟩)
  | read addr _ => exact .inr (.inr (.busRead addr s))
  | write _ addr v _ _ => exact .inr (.inr (.busWrite addr v s))
  | process _ _ => exact .inl ⟨.inr ⟨_, rfl⟩, (KeepsRegisters.process s).sameRegisters⟩
  | mirrorRecompute _ => exact .inr (.inl ⟨rfl, (KeepsRegisters.refl _).sameRegisters⟩)
  | applyPending _ => exact .inl ⟨.inl rfl, (KeepsRegisters.refl _).sameRegisters⟩
  | catchUp _ _ => exact .inr (.inr (KeepsRegisters.catchUp s).sameRegisters)
  | chipCycle _ _ => exact .inr (.inr (KeepsRegisters.chipCycle s).sameRegisters)
  | beamAdvance _ _ => exact .inr (.inr (KeepsRegisters.beamAdvance s).sameRegisters)
  | vsyncCheck _ _ => exact .inr (.inr (KeepsRegisters.vsyncCheck s).sameRegisters)
  | pixelEmit _ _ => exact .inr (.inr (KeepsRegisters.pixelEmit s).sameRegisters)

/-- An operation that changes the counter applied a WSYNC pair (42_cycle_synchronizer.md R125). -/
theorem Effect.cycleNum_ne {i : Instr} {s t : State} (h : Effect s i t) (hne : t.cycleNum ≠ s.cycleNum) :
    (∃ v, s.pendingWrite = some (.wsync, v)) ∧ AppliesPending i := by
  have hnew : ∀ a b, i ≠ .new a b := by
    rintro a b rfl
    rcases h.live_or_new with hl | ⟨_, _, -, -, -, rfl⟩
    · exact h.ne_new hl.constructed a b rfl
    · exact hne rfl
  rcases h.registers hnew with ⟨applies, same⟩ | ⟨-, same⟩ | same
  · refine ⟨?_, applies⟩
    by_contra none
    obtain ⟨-, -, -, -, -, counter, -⟩ := applyPending_registers s
    exact hne (same.cycleNum.trans (counter (not_exists.mp none)))
  · exact absurd same.cycleNum hne
  · exact absurd same.cycleNum hne

/-- Settles O49: the counter grows with every step (`StepEffect.cycleNum_le`), and in an operation only an applied WSYNC
moves it (`Effect.cycleNum_ne`). -/
theorem counterNeverDecreasesAndOnlyWsyncMovesIt : Obligations.CounterNeverDecreasesAndOnlyWsyncMovesIt :=
  ⟨fun _ _ h => (step_effect h).cycleNum_le, fun _ _ _ h hne => (exec_next h).cycleNum_ne hne⟩

/-- Settles O52: `Effect.keepsBeam`, and BEAM_ADVANCE by itself counts nothing. -/
theorem onlyChipCyclesMoveTheBeam : Obligations.OnlyChipCyclesMoveTheBeam := by
  intro i s t h hnew hprocess hcatch hcycle
  by_cases hadv : i = .beamAdvance
  · subst hadv
    refine ⟨?_, fun hne => absurd rfl hne⟩
    cases exec_next h with
    | beamAdvance _ _ => rfl
    | query _ _ _ hq => simp at hq
    | write _ _ _ _ hw => cases hasBusFormat_of_write hw
  · obtain ⟨hx, hy, hc⟩ := (exec_next h).keepsBeam hadv hcycle hcatch hprocess hnew
    exact ⟨hc, fun _ => ⟨hx, hy⟩⟩

/-- Settles O53: the three cases of `Effect.registers`; what an application changes is `applyPending_registers` and
`applyPending_mask`, and MIRROR_RECOMPUTE leaves the left half of the mask. -/
theorem registersChangeOnlyThroughTheirOwnHandler : Obligations.RegistersChangeOnlyThroughTheirOwnHandler := by
  intro i s t h hnew applies happlies
  rcases (exec_next h).registers hnew with ⟨doesApply, same⟩ | ⟨rfl, same⟩ | same
  · have applied : applies := happlies.mpr doesApply
    obtain ⟨vsync, vblank, colupf, colubk, ctrlpf, -, low⟩ := applyPending_registers s
    refine ⟨fun q => same.vsyncMode.trans (vsync (q.neg_resolve_left applied)),
      fun q => same.vblankMode.trans (vblank (q.neg_resolve_left applied)),
      fun q => same.playfieldColor.trans (colupf (q.neg_resolve_left applied)),
      fun q => same.backgroundColor.trans (colubk (q.neg_resolve_left applied)),
      fun q => same.playfieldMirrored.trans (ctrlpf (q.neg_resolve_left applied)), fun q => ?_, fun _ q => ?_⟩
    · rw [same.playfieldMask, low (q.neg_resolve_left applied)]
    · rw [same.playfieldMask, applyPending_mask (q.neg_resolve_left applied)]
  · refine ⟨fun _ => same.vsyncMode, fun _ => same.vblankMode, fun _ => same.playfieldColor,
      fun _ => same.backgroundColor, fun _ => same.playfieldMirrored, fun _ => ?_, fun hne => absurd rfl hne⟩
    rw [same.playfieldMask, mirrorRecompute, State.setPlayfieldMask_playfieldMask, lowHalf_setSlice_high]
  · exact ⟨fun _ => same.vsyncMode, fun _ => same.vblankMode, fun _ => same.playfieldColor,
      fun _ => same.backgroundColor, fun _ => same.playfieldMirrored, fun _ => by rw [same.playfieldMask],
      fun _ _ => by rw [same.playfieldMask]⟩

end Sys2Proof.Machine

/-! PROOFS. Requests and operations (30_encoding.md R70 to R73, R83): the encoder and the decoder are inverse. -/

namespace Sys2Proof.Machine

/-! ## Register rows -/

theorem encode_registerWrite (p : Params) (r : RegId) (v : Byte) : encode p (registerWrite r v) = encodeRegister p r v := by
  cases r <;> rfl

theorem wellFormed_registerWrite (p : Params) (r : RegId) (v : Byte) : wellFormed p (registerWrite r v) = true := by
  cases r <;> rfl

/-- A write transaction to a register's address is the register's row (30_encoding.md R83). -/
theorem decode_encodeRegister {p : Params} (h : p.valid = true) (r : RegId) (v : Byte) :
    decode p (encodeRegister p r v) = .ok (registerWrite r v) := by
  rw [encodeRegister, decode_writeWord (addrOf_lt h r), decodeWrite, registerAt_addrOf h]

theorem addressFits_iff {p : Params} {addr : Nat} : addressFits p addr = true ↔ addr < 2 ^ p.addrBits :=
  decide_eq_true_iff

/-- Settles O57: a register row is found at its address, a BUS_WRITE has no register at its address, and every other request
names its operation. -/
theorem decodeOfEncodeIsTheOperation : Obligations.DecodeOfEncodeIsTheOperation := by
  intro p i hp hw
  cases i with
  | wVsync v => exact decode_encodeRegister hp .vsync v
  | wVblank v => exact decode_encodeRegister hp .vblank v
  | wWsync v => exact decode_encodeRegister hp .wsync v
  | wColupf v => exact decode_encodeRegister hp .colupf v
  | wColubk v => exact decode_encodeRegister hp .colubk v
  | wCtrlpf v => exact decode_encodeRegister hp .ctrlpf v
  | wPf0 v => exact decode_encodeRegister hp .pf0 v
  | wPf1 v => exact decode_encodeRegister hp .pf1 v
  | wPf2 v => exact decode_encodeRegister hp .pf2 v
  | busWrite addr v =>
    obtain ⟨fits, free⟩ := Bool.and_eq_true_iff.mp hw
    rw [encode, decode_writeWord (addressFits_iff.mp fits), decodeWrite, Option.isNone_iff_eq_none.mp free]
  | busRead addr => exact if_pos (addressFits_iff.mp hw)
  | new a b => exact if_pos hw
  | contains addr => exact if_pos hw
  | lookup table addr => exact if_pos hw
  | _ => rfl

/-! ## What a request decodes to -/

/-- A word of at most ADDR_BITS + 8 bits is the word of its two fields (30_encoding.md R71). -/
theorem writeWord_fields {p : Params} {word : Nat} (h : word < 2 ^ p.addrBits * 256) :
    writeWord p (word % 2 ^ p.addrBits) (BitVec.ofNat 8 (word / 2 ^ p.addrBits)) = word := by
  have value : word / 2 ^ p.addrBits < 256 := Nat.div_lt_of_lt_mul h
  rw [writeWord, BitVec.toNat_ofNat, Nat.mod_eq_of_lt value, Nat.mod_add_div]

/-- The operation `i` is well formed and `r` is its request. -/
abbrev Represents (p : Params) (r : Request) (i : Instr) : Prop := wellFormed p i = true ∧ encode p i = r

theorem decodeWrite_represents {p : Params} {addr : Nat} (fits : addr < 2 ^ p.addrBits) (v : Byte) :
    Represents p (.bus .write (writeWord p addr v)) (decodeWrite p addr v) := by
  cases found : registerAt p addr with
  | some r =>
    obtain rfl := registerAt_some found
    simp only [decodeWrite, found]
    exact ⟨wellFormed_registerWrite p r v, encode_registerWrite p r v⟩
  | none =>
    simp only [decodeWrite, found]
    exact ⟨Bool.and_eq_true_iff.mpr ⟨addressFits_iff.mpr fits, Option.isNone_iff_eq_none.mpr found⟩, rfl⟩

theorem decodeBus_represents {p : Params} {dir : Direction} {word : Nat} {i : Instr} (h : decodeBus p dir word = .ok i) :
    Represents p (.bus dir word) i := by
  cases dir with
  | write =>
    simp only [decodeBus] at h
    split at h
    · rename_i narrow
      cases h
      have whole := decodeWrite_represents (Nat.mod_lt word (Nat.two_pow_pos p.addrBits))
        (BitVec.ofNat 8 (word / 2 ^ p.addrBits))
      rwa [writeWord_fields narrow] at whole
    · cases h
  | read =>
    simp only [decodeBus] at h
    split at h
    · rename_i fits
      cases h
      exact ⟨addressFits_iff.mpr fits, rfl⟩
    · cases h

/-- A check of the operands before an operation is accepted. -/
theorem represents_of_check {p : Params} {r : Request} {i j : Instr} {c : Bool} {e : DecodeError}
    (h : (if c then Except.ok j else Except.error e) = Except.ok i) (hj : c = true → Represents p r j) :
    Represents p r i := by
  split at h
  · rename_i hc
    cases h
    exact hj hc
  · cases h

theorem decodeCall_represents {p : Params} {name : CallName} {args : List Nat} {i : Instr}
    (h : decodeCall p name args = .ok i) : Represents p (.call name args) i := by
  unfold decodeCall at h
  split at h
  · exact represents_of_check h fun fits => ⟨fits, rfl⟩
  · exact represents_of_check h fun fits => ⟨fits, rfl⟩
  · cases h
    exact ⟨rfl, rfl⟩
  · cases h
    exact ⟨rfl, rfl⟩
  · cases h

theorem decodePart_represents {p : Params} {name : PartName} {args : List Nat} {i : Instr}
    (h : decodePart p name args = .ok i) : Represents p (.part name args) i := by
  unfold decodePart at h
  split at h
  · exact represents_of_check h fun fits => ⟨fits, rfl⟩
  iterate 7
    · cases h
      exact ⟨rfl, rfl⟩
  · cases h

/-- Settles O58: by the form of the request. -/
theorem encodeOfDecodeIsTheRequest : Obligations.EncodeOfDecodeIsTheRequest := by
  intro p r i h
  cases r with
  | bus dir word => exact decodeBus_represents h
  | call name args => exact decodeCall_represents h
  | part name args => exact decodePart_represents h

/-- Settles O56: the twelve words are evaluated. -/
theorem tableWordsDecodeToTheirRows : Obligations.TableWordsDecodeToTheirRows := by
  unfold Obligations.TableWordsDecodeToTheirRows
  decide

end Sys2Proof.Machine

/-! PROOFS. Construction and the guards (40_bus_access.md R90, 60_exceptions.md R154): the chip that NEW builds, and the
chips on which no operation has a step. -/

namespace Sys2Proof.Machine

/-! ## The tables of NEW, slot by slot -/

theorem getElem?_of_lt_length {α : Type} {l : List (Option α)} {k : Nat} (h : k < l.length) :
    l[k]? = some (l.getD k none) := by
  simp [List.getD_eq_getElem?_getD, h]

section
variable {p : Params}

/-- Every slot of RT that READ_TABLE does not name holds nothing (20_memory.md R54). -/
theorem buildReadTable_other {k : Nat} (hk : ∀ e ∈ p.readHandlers, e.1 ≠ k) : (buildReadTable p).getD k none = none := by
  refine (getD_fill_of_notMem Prod.fst Prod.snd p.readHandlers (List.replicate p.regionSize none) k hk).trans ?_
  cases lt_or_ge k p.regionSize with
  | inl hlt => exact List.getD_replicate _ hlt
  | inr hge => exact List.getD_eq_default _ _ (by simpa using hge)

/-- With no offset given twice, the slot of each entry of READ_TABLE holds its handler (20_memory.md R54). -/
theorem buildReadTable_mem (h : p.valid = true) (hn : (p.readHandlers.map Prod.fst).Nodup)
    {e : Nat × ReadHandlerId} (he : e ∈ p.readHandlers) : (buildReadTable p).getD e.1 none = some e.2 :=
  getD_fill_of_mem Prod.fst Prod.snd p.readHandlers _ e he hn
    (by simpa using valid_readHandlers h e he)

/-- The slot of each register's offset holds the register (20_memory.md R53). -/
theorem buildWriteTable_slot (h : p.valid = true) (r : RegId) : (buildWriteTable p)[p.off r]? = some (some r) := by
  rw [getElem?_of_lt_length (by rw [length_buildWriteTable]; exact valid_off h r), buildWriteTable_off h]

theorem buildWriteTable_free {k : Nat} (hk : k < p.regionSize) (other : ∀ r, p.off r ≠ k) :
    (buildWriteTable p)[k]? = some none := by
  rw [getElem?_of_lt_length (by rwa [length_buildWriteTable]), buildWriteTable_other other]

theorem buildReadTable_slot (h : p.valid = true) (hn : (p.readHandlers.map Prod.fst).Nodup)
    {e : Nat × ReadHandlerId} (he : e ∈ p.readHandlers) : (buildReadTable p)[e.1]? = some (some e.2) := by
  rw [getElem?_of_lt_length (by rw [length_buildReadTable]; exact valid_readHandlers h e he), buildReadTable_mem h hn he]

theorem buildReadTable_free {k : Nat} (hk : k < p.regionSize) (other : ∀ e ∈ p.readHandlers, e.1 ≠ k) :
    (buildReadTable p)[k]? = some none := by
  rw [getElem?_of_lt_length (by rwa [length_buildReadTable]), buildReadTable_other other]

end

@[simp] theorem construct_writeTable (p : Params) (s : State) : (construct p s).writeTable = buildWriteTable p := rfl
@[simp] theorem construct_readTable (p : Params) (s : State) : (construct p s).readTable = buildReadTable p := rfl

theorem boundedParams_off (p : Params) (a b : Nat) (r : RegId) : (boundedParams p a b).off r = p.off r := by
  cases r <;> rfl

theorem exec_new {s : State} {a b : Nat} (hc : s.constructed = false) (hv : (boundedParams s.params a b).valid = true) :
    exec (.new a b) s = .next (construct (boundedParams s.params a b) s) := by
  rw [exec, execNew, hc, if_neg Bool.false_ne_true, if_pos hv]

/-- Settles O3: `construct` sets every other field to what is claimed, and the slots of the two tables are the laws of
`buildWriteTable` and `buildReadTable`. -/
theorem newBuildsTablesAndState : Obligations.NewBuildsTablesAndState := by
  intro s a b hc hv
  refine ⟨_, exec_new hc hv, rfl, rfl, length_buildWriteTable _, length_buildReadTable _, fun r => ?_,
    fun k hk other => ?_, fun k hk other => ?_, fun hn e he => ?_, rfl, rfl, rfl, rfl, rfl, rfl, rfl, rfl, rfl, rfl, rfl,
    rfl, rfl, rfl, rfl, rfl, rfl, rfl, rfl, rfl⟩
  · rw [construct_writeTable, ← boundedParams_off s.params a b r, buildWriteTable_slot hv]
  · have free (r : RegId) : (boundedParams s.params a b).off r ≠ k := by
      rw [boundedParams_off]
      exact other r
    rw [construct_writeTable, buildWriteTable_free (p := boundedParams s.params a b) hk free]
  · rw [construct_readTable, buildReadTable_free (p := boundedParams s.params a b) hk other]
  · rw [construct_readTable, buildReadTable_slot hv (e := e) hn he]

/-- Settles O4: the two guards of `execNew`. -/
theorem newRefusesSecondAndBadParameters : Obligations.NewRefusesSecondAndBadParameters := by
  intro s a b
  refine ⟨fun hc => ?_, fun hc hv => ?_⟩
  · rw [exec, execNew, if_pos hc]
  · rw [exec, execNew, hc, hv, if_neg Bool.false_ne_true, if_neg Bool.false_ne_true]

/-! ## The reset state -/

/-- Settles O1: the step is evaluated. -/
theorem newAsFirstInputGivesResetState : Obligations.NewAsFirstInputGivesResetState := rfl

/-- Settles O2: the fields of the one state are read off. -/
theorem resetStateValues : Obligations.ResetStateValues := by
  unfold Obligations.ResetStateValues
  decide

/-- The run invariant asks nothing of a process without a chip but a counter at CYCLE_INIT. -/
theorem runInvariant_beforeNew (p : Params) (inputs : List Input) :
    RunInvariant { State.beforeNew p with inbox := inputs } :=
  ⟨rfl, fun _ => rfl, fun hc => Bool.noConfusion hc⟩

/-- Settles O46: the reset state is the next state of a step from a process before its NEW, and steps keep the
invariant. -/
theorem resetStateMeetsTheRunInvariant : Obligations.ResetStateMeetsTheRunInvariant :=
  ⟨everyStepKeepsTheRunInvariant _ _ (runInvariant_beforeNew _ _) newAsFirstInputGivesResetState,
    fun p => runInvariant_beforeNew p []⟩

/-! ## Chips on which no operation has a step -/

/-- Every operation but NEW asks first for a live chip. -/
theorem exec_eq_whenLive {i : Instr} (hnew : ∀ a b, i ≠ .new a b) (s : State) : ∃ k, exec i s = whenLive s k := by
  cases i with
  | new a b => exact absurd rfl (hnew a b)
  | _ =>
    simp only [exec, execWVsync, execWVblank, execWWsync, execWColupf, execWColubk, execWCtrlpf, execWPf0, execWPf1,
      execWPf2, writeRegister, execBusWrite, execBusRead, execContains, execGetBusRegion, execProcess, execLookup,
      execMirrorRecompute, execApplyPending, execCatchUp, execChipCycle, execBeamAdvance, execVsyncCheck, execPixelEmit,
      whenIdle]
    exact ⟨_, rfl⟩

theorem whenLive_notConstructed {s : State} (h : s.constructed = false) (k : State → Result) :
    whenLive s k = .refused .notConstructed := if_pos h

theorem whenLive_halted {s : State} {e : FatalEvent} (h : Constructed s) (hf : s.fatal = some e) (k : State → Result) :
    whenLive s k = .refused .halted := by
  rw [whenLive, whenConstructed_eq h, hf]
  rfl

theorem whenIdle_hung {s : State} (h : Live s) (hh : s.hung = true) (k : State → Result) :
    whenIdle s k = .refused .processRunning := by
  rw [whenIdle, whenLive_eq h, if_pos hh]

/-- Settles O5: before construction the guard that every other operation shares (`exec_eq_whenLive`) refuses. -/
theorem nothingBeforeNew : Obligations.NothingBeforeNew := by
  intro i s hc hnew
  obtain ⟨k, hk⟩ := exec_eq_whenLive hnew s
  rw [hk, whenLive_notConstructed hc]

/-- Settles O42: a latched condition stops the guard that every operation but NEW shares (`exec_eq_whenLive`). -/
theorem haltedChipRefusesEveryOperation : Obligations.HaltedChipRefusesEveryOperation := by
  intro s e h hf
  have ⟨hc, _⟩ := h
  refine ⟨fun a b => (newRefusesSecondAndBadParameters s a b).1 hc, fun i hnew => ?_⟩
  obtain ⟨k, hk⟩ := exec_eq_whenLive hnew s
  rw [hk, whenLive_halted h hf]

end Sys2Proof.Machine

/-! PROOFS. Dispatch by address (40_bus_access.md R93 to R95): which addresses of the two tables hit. -/

namespace Sys2Proof.Machine

/-! ## LOOKUP in the tables of NEW -/

section
variable {p : Params} (h : p.valid = true)
include h

theorem lookup_write_addrOf (r : RegId) : lookup p (buildWriteTable p) (p.addrOf r) = some r := by
  rw [lookup_buildWriteTable h, registerAt_addrOf h]

theorem lookup_write_other {addr : Nat} (other : ∀ r, addr ≠ p.addrOf r) : lookup p (buildWriteTable p) addr = none := by
  rw [lookup_buildWriteTable h, registerAt_none.mpr other]

/-- The locations of the region are START_ADDR and the regionSize - 1 after it. -/
theorem inRegion_offset {k : Nat} (hk : k < p.regionSize) : inRegion p (p.startAddr + k) = true := by
  have ⟨nonempty, _⟩ := valid_region h
  simp only [Params.regionSize] at hk
  rw [inRegion_eq_decide, decide_eq_true_eq]
  omega

theorem lookup_read_mem (hn : (p.readHandlers.map Prod.fst).Nodup) {e : Nat × ReadHandlerId} (he : e ∈ p.readHandlers) :
    lookup p (buildReadTable p) (p.startAddr + e.1) = some e.2 := by
  rw [lookup, if_pos (inRegion_offset h (valid_readHandlers h e he)), Nat.add_sub_cancel_left, buildReadTable_mem h hn he]

omit h in
theorem lookup_read_other {addr : Nat} (other : ∀ e ∈ p.readHandlers, addr ≠ p.startAddr + e.1) :
    lookup p (buildReadTable p) addr = none := by
  rw [lookup]
  split
  · rename_i inside
    rw [inRegion_eq_decide, decide_eq_true_eq] at inside
    refine buildReadTable_other fun e he hk => other e he ?_
    omega
  · rfl

end

theorem exec_lookup {s : State} (h : Live s) (table : Table) (addr : Nat) :
    exec (.lookup table addr) s =
      .next (s.setAnswer (((lookupHandler s table addr).map Answer.hit).getD .miss)) := by
  rw [exec, execLookup, whenLive_eq h]

section
variable {s : State} (h : Live s) {addr : Nat}
include h

theorem exec_lookup_hit {table : Table} {handler : Handler} (hit : lookupHandler s table addr = some handler) :
    exec (.lookup table addr) s = .next (s.setAnswer (.hit handler)) := by
  rw [exec_lookup h, hit]
  rfl

theorem exec_lookup_miss {table : Table} (miss : lookupHandler s table addr = none) :
    exec (.lookup table addr) s = .next (s.setAnswer .miss) := by
  rw [exec_lookup h, miss]
  rfl

end

/-- Settles O8: the four laws of `lookup` on the built tables. -/
theorem lookupIsByExactOffset : Obligations.LookupIsByExactOffset := by
  intro s h ⟨wt, rt⟩
  have hv := h.valid
  refine ⟨fun r => exec_lookup_hit h ?_, fun addr other => exec_lookup_miss h ?_,
    fun hn e he => exec_lookup_hit h ?_, fun addr other => exec_lookup_miss h ?_⟩
  · rw [lookupHandler, wt]
    exact congrArg (Option.map Handler.write) (lookup_write_addrOf hv r)
  · rw [lookupHandler, wt, lookup_write_other hv other, Option.map_none]
  · rw [lookupHandler, rt, lookup_read_mem hv hn he, Option.map_some]
  · rw [lookupHandler, rt, lookup_read_other other, Option.map_none]

/-! ## The two transactions -/

/-- Settles O9: each row is `registerWrite` of its register. -/
theorem registerWritesGoToThePendingSlot : Obligations.RegisterWritesGoToThePendingSlot := by
  intro s v h ht
  have row := fun r => exec_registerWrite_pending h ht r v
  exact ⟨row .vsync, row .vblank, row .wsync, row .colupf, row .colubk, row .ctrlpf, row .pf0, row .pf1, row .pf2⟩

/-- Settles O10: a register's address hits, and every other address misses in the built table. -/
theorem busWriteHitsOrReports : Obligations.BusWriteHitsOrReports := by
  intro s v h ht
  refine ⟨fun r => ?_, fun addr other => ?_⟩
  · have hit := exec_busWrite_addrOf h ht r v
    exact ⟨hit.trans (exec_registerWrite_pending h ht r v).symm, hit⟩
  · have miss : lookup s.params s.writeTable addr = none := by
      rw [ht.1, lookup_write_other h.live.valid other]
    rw [exec_busWrite h, busWrite_miss miss, State.report]

theorem busRead_hit {s : State} {addr : Nat} {h : ReadHandlerId} (hit : lookup s.params s.readTable addr = some h) :
    busRead addr s = s.setAnswer (.byte (Config.readHandler h s.chip)) := by
  simp only [busRead, hit]

/-- Settles O12: a hit reads S and only answers (`busRead_hit`). -/
theorem busReadHitReturnsHandlerValue : Obligations.BusReadHitReturnsHandlerValue := by
  intro s addr handler h hit
  rw [exec_busRead h, busRead_hit hit, State.setAnswer]

end Sys2Proof.Machine

/-! PROOFS. The register handlers (41_register_handlers.md) of VBLANK, WSYNC and the playfield, and the laws of the mirror
recomputation. -/

namespace Sys2Proof.Machine

/-! ## VBLANK -/

theorem getLsbD_vblankMask {k : Nat} (hk : k < 8) : (0x3C#8).getLsbD k = decide (2 ≤ k ∧ k ≤ 5) := by
  interval_cases k <;> rfl

/-- The legal values of VBLANK are those with bits 5:2 clear (30_encoding.md R75). -/
theorem registerLegal_vblank_iff {v : Byte} :
    registerLegal .vblank v ↔ ∀ k, 2 ≤ k → k ≤ 5 → v.getLsbD k = false := by
  constructor
  · intro legal k h2 h5
    have bit : (v &&& 0x3C#8).getLsbD k = (0#8).getLsbD k := congrArg (BitVec.getLsbD · k) legal
    simpa [getLsbD_vblankMask (show k < 8 by omega), h2, h5] using bit
  · intro clear
    refine BitVec.eq_of_getLsbD_eq fun k hk => ?_
    rw [BitVec.getLsbD_and, getLsbD_vblankMask hk, BitVec.getLsbD_zero, Bool.and_eq_false_iff, decide_eq_false_iff_not]
    by_cases inside : 2 ≤ k ∧ k ≤ 5
    · exact .inl (clear k inside.1 inside.2)
    · exact .inr inside

theorem hVblank_legal {v : Byte} (h : registerLegal .vblank v) (s : State) :
    hVblank v s = s.setVblankMode (v.getLsbD 1) := by
  rw [hVblank, if_pos (vblankLegal_iff.mpr h), vblankModeOf]

/-- Settles O17: the values with bits 5:2 clear are the legal ones of VBLANK, so the handler runs on them, and
`raise Fatal` on the others. -/
theorem vblankRegisterTakesBitOne : Obligations.VblankRegisterTakesBitOne := by
  intro s v h hp
  refine ⟨fun clear => ?_, fun ⟨k, h2, h5, set⟩ => ?_⟩
  · have legal := registerLegal_vblank_iff.mpr clear
    rw [exec_applyPending_legal h hp legal, applyHandler, hVblank_legal legal]
    rfl
  · have illegal : ¬ registerLegal .vblank v := fun legal => by
      rw [registerLegal_vblank_iff.mp legal k h2 h5] at set
      cases set
    rw [exec_applyPending_illegal h hp illegal]
    rfl

/-! ## WSYNC -/

/-- The stall is at least HBLANK_CPU_CYCLES and one cycle more, and at most a line longer than HBLANK_CPU_CYCLES
(42_cycle_synchronizer.md R125). -/
theorem wsyncTarget_bounds {p : Params} (h : 1 ≤ p.scanlineCpuCycles) (c : Nat) :
    c + p.hblankCpuCycles + 1 ≤ wsyncTarget p c ∧ wsyncTarget p c ≤ c + p.hblankCpuCycles + p.scanlineCpuCycles := by
  have inLine := Nat.mod_lt c h
  rw [wsyncTarget]
  omega

/-- Settles O21: every byte is legal for WSYNC, and the target is `wsyncTarget`. -/
theorem wsyncStallsToTheNextLine : Obligations.WsyncStallsToTheNextLine := by
  intro s v h hp
  obtain ⟨-, line, -⟩ := valid_timing h.valid
  refine ⟨wsyncTarget s.params s.cycleNum, ?_, wsyncTarget_eq line _, wsyncTarget_bounds line _⟩
  rw [exec_applyPending_legal h hp trivial]
  rfl

/-! ## The extension of the left half -/

/-- A field of the mirrored extension is the reversal of the field that stands as far from the other end (R109). -/
theorem extractLsb'_upper_mirrored (low : Pattern) {lo len : Nat} (h : lo + len ≤ 20) :
    (upper low true).extractLsb' lo len = rev (low.extractLsb' (20 - (lo + len)) len) := by
  refine BitVec.eq_of_getLsbD_eq fun i hi => ?_
  rw [BitVec.getLsbD_extractLsb', getLsbD_upper _ _ _ (by omega), if_pos rfl, getLsbD_rev _ _ hi,
    BitVec.getLsbD_extractLsb', show 20 - (lo + len) + (len - 1 - i) = 19 - (lo + i) by omega]
  simp only [hi, show len - 1 - i < len by omega, decide_true]

/-- Settles O24: the three fields are instances of `extractLsb'_upper_mirrored`. -/
theorem upperExtensionRepeatsOrMirrors : Obligations.UpperExtensionRepeatsOrMirrors := by
  intro low
  refine ⟨rfl, extractLsb'_upper_mirrored low (by decide), extractLsb'_upper_mirrored low (by decide),
    extractLsb'_upper_mirrored low (by decide), fun i hi => ?_⟩
  rw [getLsbD_upper _ _ _ hi, if_pos rfl]

/-! ## The mirror recomputation -/

theorem exec_mirrorRecompute {s : State} (h : Live s) : exec .mirrorRecompute s = .next (mirrorRecompute s) := by
  rw [exec, execMirrorRecompute, whenLive_eq h]

/-- Settles O25: `getLsbD_mirrorRecompute` says every bit. -/
theorem mirrorRecomputeReplacesTheUpperBits : Obligations.MirrorRecomputeReplacesTheUpperBits := by
  intro s h
  exact ⟨(mirrorRecompute s).playfieldMask, exec_mirrorRecompute h, getLsbD_mirrorRecompute s⟩

/-- Settles O19: CTRLPF recomputes in the mode that it has just set. -/
theorem ctrlpfRegisterSetsMirroringAndExtends : Obligations.CtrlpfRegisterSetsMirroringAndExtends := by
  intro s v h hp
  refine ⟨(hCtrlpf v s).playfieldMask, ?_, getLsbD_mirrorRecompute (s.setPlayfieldMirrored (mirroredOf v))⟩
  rw [exec_applyPending_legal h hp trivial]
  rfl

/-- The old upper bits have no influence (R112). -/
theorem mirrorRecompute_setPlayfieldMask {s : State} {m : Mask} (h : lowHalf m = lowHalf s.playfieldMask) :
    mirrorRecompute (s.setPlayfieldMask m) = mirrorRecompute s := by
  have same : setSlice m 20 20 (upper (lowHalf m) s.playfieldMirrored) =
      setSlice s.playfieldMask 20 20 (upper (lowHalf s.playfieldMask) s.playfieldMirrored) :=
    mask_ext (by simp [h]) (by simp [h])
  exact congrArg (s.setPlayfieldMask ·) same

/-- Back in the old mode, CTRLPF recomputes from the old left half (R112). -/
theorem hCtrlpf_hCtrlpf {s : State} (v : Byte) {w : Byte} (h : w.getLsbD 0 = s.playfieldMirrored) :
    hCtrlpf w (hCtrlpf v s) = mirrorRecompute s := by
  have low : lowHalf (hCtrlpf v s).playfieldMask = lowHalf s.playfieldMask := lowHalf_setSlice_high _ _
  have back : (hCtrlpf v s).setPlayfieldMirrored (mirroredOf w) = s.setPlayfieldMask (hCtrlpf v s).playfieldMask := by
    rw [mirroredOf, h]
    rfl
  rw [hCtrlpf, back, mirrorRecompute_setPlayfieldMask low]

/-- A left half that is its own reversal is extended to the same mask in both modes (R112). -/
theorem hCtrlpf_mask_of_palindrome {s : State}
    (h : ∀ i, i < 20 → s.playfieldMask.getLsbD i = s.playfieldMask.getLsbD (19 - i)) (v : Byte) :
    (hCtrlpf v s).playfieldMask = setSlice s.playfieldMask 20 20 (lowHalf s.playfieldMask) := by
  refine mask_ext ((lowHalf_setSlice_high _ _).trans (lowHalf_setSlice_high _ _).symm) ?_
  refine BitVec.eq_of_getLsbD_eq fun i hi => ?_
  obtain ⟨-, bit⟩ := getLsbD_mirrorRecompute (s.setPlayfieldMirrored (mirroredOf v)) i hi
  rw [highHalf_setSlice_high, getLsbD_lowHalf, getLsbD_highHalf, decide_eq_true hi, Bool.true_and, Bool.true_and]
  refine bit.trans ?_
  rw [State.setPlayfieldMirrored_playfieldMask, ← h i hi, ite_self]

/-- Settles O26: the recomputation reads the left half and the mode only, and where the mask is extended it changes nothing. -/
theorem mirrorRecomputeLaws : Obligations.MirrorRecomputeLaws := by
  intro s
  refine ⟨mirrorRecompute_of_extended (mirrorRecompute_extended s), fun m => mirrorRecompute_setPlayfieldMask,
    fun v w extended mode => ?_, fun palindrome => ?_⟩
  · rw [hCtrlpf_hCtrlpf v mode, mirrorRecompute_of_extended extended]
  · rw [hCtrlpf_mask_of_palindrome palindrome, hCtrlpf_mask_of_palindrome palindrome]

/-! ## The playfield registers -/

/-- The common form of PF0, PF1 and PF2: a field of the left half is replaced, and the right half recomputed
(41_register_handlers.md section 3). -/
def replaceField (lo len : Nat) (field : BitVec len) (s : State) : State :=
  mirrorRecompute (s.setPlayfieldMask (setSlice s.playfieldMask lo len field))

section
variable {lo len : Nat} {field : BitVec len} {s : State}

theorem getLsbD_replaceField_low {i : Nat} (hi : i < 20) :
    (replaceField lo len field s).playfieldMask.getLsbD i =
      if lo ≤ i ∧ i < lo + len then field.getLsbD (i - lo) else s.playfieldMask.getLsbD i := by
  rw [replaceField, (getLsbD_mirrorRecompute _ i hi).1, State.setPlayfieldMask_playfieldMask,
    getLsbD_setSlice _ _ _ _ _ (by omega)]

/-- What PF0, PF1 and PF2 do to each bit: the field, the rest of the left half, the extension. -/
theorem replaceField_bits (h : lo + len ≤ 20) :
    (∀ k, k < len → (replaceField lo len field s).playfieldMask.getLsbD (lo + k) = field.getLsbD k) ∧
    (∀ i, i < 20 → (i < lo ∨ lo + len ≤ i) →
      (replaceField lo len field s).playfieldMask.getLsbD i = s.playfieldMask.getLsbD i) ∧
    (∀ i, i < 20 → (replaceField lo len field s).playfieldMask.getLsbD (20 + i) =
      if s.playfieldMirrored then (replaceField lo len field s).playfieldMask.getLsbD (19 - i)
      else (replaceField lo len field s).playfieldMask.getLsbD i) := by
  refine ⟨fun k hk => ?_, fun i hi outside => ?_, fun i hi => ?_⟩
  · rw [getLsbD_replaceField_low (by omega), if_pos (by omega), Nat.add_sub_cancel_left]
  · rw [getLsbD_replaceField_low hi, if_neg (by omega)]
  · obtain ⟨lowBit, bit⟩ := getLsbD_mirrorRecompute (s.setPlayfieldMask (setSlice s.playfieldMask lo len field)) i hi
    obtain ⟨mirrorBit, -⟩ :=
      getLsbD_mirrorRecompute (s.setPlayfieldMask (setSlice s.playfieldMask lo len field)) (19 - i) (by omega)
    rw [replaceField, bit, lowBit, mirrorBit, State.setPlayfieldMask_playfieldMirrored]

end

theorem getLsbD_pf0Field (v : Byte) {k : Nat} (hk : k < 4) : (pf0Field v).getLsbD k = v.getLsbD (4 + k) := by
  rw [pf0Field, BitVec.getLsbD_extractLsb', decide_eq_true hk, Bool.true_and]

theorem getLsbD_pf1Field (p : Params) (v : Byte) {k : Nat} (hk : k < 8) :
    (pf1Field p v).getLsbD k = v.getLsbD (if p.pf1Reversed = true then 7 - k else k) := by
  rw [pf1Field]
  split
  · exact getLsbD_rev v k hk
  · rfl

/-- Settles O20: the three registers are `replaceField` of their fields, whose bits are `getLsbD_pf0Field`,
`getLsbD_pf1Field` and those of the byte itself. -/
theorem playfieldRegistersReplaceTheirFields : Obligations.PlayfieldRegistersReplaceTheirFields := by
  intro s r v lo len h hp which
  rcases which with ⟨rfl, rfl, rfl⟩ | ⟨rfl, rfl, rfl⟩ | ⟨rfl, rfl, rfl⟩
  · obtain ⟨field, rest, extension⟩ := replaceField_bits (lo := 0) (field := pf0Field v) (s := s) (by decide)
    refine ⟨_, exec_applyPending_legal h hp trivial, fun k hk => ?_, rest, extension⟩
    exact (field k hk).trans (getLsbD_pf0Field v hk)
  · obtain ⟨field, rest, extension⟩ := replaceField_bits (lo := 4) (field := pf1Field s.params v) (s := s) (by decide)
    refine ⟨_, exec_applyPending_legal h hp trivial, fun k hk => ?_, rest, extension⟩
    refine ((field k hk).trans (getLsbD_pf1Field s.params v hk)).trans ?_
    simp
  · obtain ⟨field, rest, extension⟩ := replaceField_bits (lo := 12) (field := pf2Field v) (s := s) (by decide)
    exact ⟨_, exec_applyPending_legal h hp trivial, field, rest, extension⟩

end Sys2Proof.Machine

/-! PROOFS. The chip cycle (43_beam_model.md R135, R138 to R142): the vertical-sync check, the pixel of a position, and the
events of a line. -/

namespace Sys2Proof.Machine

/-! ## The vertical-sync check -/

theorem lineLegal_sync_off {p : Params} {y : Nat} : lineLegal p false y = true ↔ y = 0 ∨ p.vsyncLines ≤ y := by
  simp [lineLegal, vsyncMissing, vsyncTooLong]

theorem lineLegal_sync_on {p : Params} {y : Nat} : lineLegal p true y = true ↔ y ≤ p.vsyncLateLimit := by
  simp [lineLegal, vsyncMissing, vsyncTooLong]

theorem violation_sync_off {s : State} (h : s.vsyncMode = false) :
    violation s = .vsyncMissing s.gunX s.gunY s.chipCycleNum := by
  rw [violation, h, if_neg Bool.false_ne_true]

theorem violation_sync_on {s : State} (h : s.vsyncMode = true) :
    violation s = .vsyncTooLong s.gunX s.gunY s.chipCycleNum := if_pos h

theorem exec_vsyncCheck {s : State} (h : Live s) (hr : OnRaster s) : exec .vsyncCheck s = .next (vsyncCheck s) := by
  rw [exec, execVsyncCheck, whenLive_eq h, whenOnRaster_eq hr]

/-- Settles O29: the two conditions are the illegal lines of the two modes. -/
theorem vsyncCheckRaisesExactlyOutsideTheWindowRules : Obligations.VsyncCheckRaisesExactlyOutsideTheWindowRules := by
  intro s h hr
  rw [exec_vsyncCheck h hr]
  refine ⟨fun off above below => ?_, fun on late => ?_, fun legalOff legalOn => ?_⟩
  · have illegal : lineLegal s.params s.vsyncMode s.gunY = false := by
      rw [off, Bool.eq_false_iff, Ne, lineLegal_sync_off]
      omega
    rw [vsyncCheck_illegal illegal, violation_sync_off off]
    rfl
  · have illegal : lineLegal s.params s.vsyncMode s.gunY = false := by
      rw [on, Bool.eq_false_iff, Ne, lineLegal_sync_on]
      omega
    rw [vsyncCheck_illegal illegal, violation_sync_on on]
    rfl
  · have legal : lineLegal s.params s.vsyncMode s.gunY = true := by
      cases mode : s.vsyncMode with
      | false => exact lineLegal_sync_off.mpr (legalOff mode)
      | true => exact lineLegal_sync_on.mpr (legalOn mode)
    rw [vsyncCheck_legal legal]

/-! ## The pixel of a position -/

section
variable {s : State}

theorem pixelValue_vblank (h : s.vblankMode = true) : pixelValue s = some .blank := if_pos h

theorem pixelValue_visible (h : s.vblankMode = false) (hx : s.params.hblankWidth ≤ s.gunX) :
    pixelValue s = some (.color (if s.playfieldMask.getLsbD ((s.gunX - s.params.hblankWidth) / 4) = true
      then s.playfieldColor else s.backgroundColor)) := by
  rw [pixelValue, h, if_neg Bool.false_ne_true, if_pos hx, cellAt]
  split <;> rfl

theorem pixelValue_hblank (h : s.vblankMode = false) (hx : s.gunX < s.params.hblankWidth) : pixelValue s = none := by
  rw [pixelValue, h, if_neg Bool.false_ne_true, if_neg (Nat.not_le.mpr hx)]

theorem pixelEmit_some {v : PixelValue} (h : pixelValue s = some v) :
    pixelEmit s = s.emit { x := s.gunX, y := s.gunY, value := v } := by
  simp only [pixelEmit, h]

theorem pixelEmit_none (h : pixelValue s = none) : pixelEmit s = s := by
  simp only [pixelEmit, h]

theorem exec_pixelEmit (h : Live s) (hr : OnRaster s) : exec .pixelEmit s = .next (pixelEmit s) := by
  rw [exec, execPixelEmit, whenLive_eq h, whenOnRaster_eq hr]

end

/-- Settles O30: the three branches of `pixelValue`. -/
theorem pixelEmitSamplesTheCurrentRegisters : Obligations.PixelEmitSamplesTheCurrentRegisters := by
  intro s h hr
  rw [exec_pixelEmit h hr]
  refine ⟨fun vblank => ?_, fun unblanked hx => ?_, fun unblanked hx => ?_⟩
  · rw [pixelEmit_some (pixelValue_vblank vblank), State.emit]
  · rw [pixelEmit_some (pixelValue_visible unblanked hx), State.emit]
  · rw [pixelEmit_none (pixelValue_hblank unblanked hx)]

/-- Settles O32: the visible positions are at most 160 (00_scope.md R7), so their cells are below 40. -/
theorem everyVisiblePositionHasItsCell : Obligations.EveryVisiblePositionHasItsCell := by
  intro s h hr unblanked hx
  obtain ⟨-, -, -, -, visible, -⟩ := valid_timing h.valid
  have ⟨inLine, _⟩ := hr
  obtain ⟨-, colour, -⟩ := pixelEmitSamplesTheCurrentRegisters s h hr
  exact ⟨cellAt s.params s.gunX, by rw [cellAt]; omega, by rw [cellAt]; omega, by rw [cellAt]; omega,
    colour unblanked hx⟩

/-! ## Blanking -/

/-- `t` has the blanking mode of `s`, and under vertical blank only blank events more. -/
structure AppendsBlank (s t : State) : Prop where
  vblankMode : t.vblankMode = s.vblankMode
  events : s.vblankMode = true → ∃ events, t.video = s.video ++ events ∧ ∀ e ∈ events, e.value = .blank

namespace AppendsBlank

theorem of_video_eq {s t : State} (hm : t.vblankMode = s.vblankMode) (hv : t.video = s.video) : AppendsBlank s t :=
  ⟨hm, fun _ => ⟨[], by rw [hv, List.append_nil], fun _ he => absurd he List.not_mem_nil⟩⟩

theorem trans {s t u : State} (h : AppendsBlank s t) (g : AppendsBlank t u) : AppendsBlank s u := by
  refine ⟨g.vblankMode.trans h.vblankMode, fun vblank => ?_⟩
  obtain ⟨first, ht, blank⟩ := h.events vblank
  obtain ⟨second, hu, blank'⟩ := g.events (h.vblankMode.trans vblank)
  refine ⟨first ++ second, by rw [hu, ht, List.append_assoc], fun e he => ?_⟩
  exact (List.mem_append.mp he).elim (blank e) (blank' e)

theorem orHalted {s t : State} {f : State → State} (h : AppendsBlank s t) (hf : ∀ u, AppendsBlank u (f u)) :
    AppendsBlank s (t.orHalted f) :=
  orHalted_cases (fun _ => h.trans (hf t)) fun _ _ => h

theorem vsyncCheck (s : State) : AppendsBlank s (vsyncCheck s) := by
  rcases vsyncCheck_cases s with h | h <;> rw [h] <;> exact of_video_eq rfl rfl

theorem emitAndCount (s : State) : AppendsBlank s (emitAndCount s) := by
  refine ⟨(KeepsRegisters.emitAndCount s).vblankMode, fun vblank => ?_⟩
  refine ⟨[{ x := s.gunX, y := s.gunY, value := .blank }], ?_, fun e he => by rw [List.mem_singleton.mp he]⟩
  rw [Machine.emitAndCount, pixelEmit_some (pixelValue_vblank vblank)]
  rfl

theorem chipCycle (s : State) : AppendsBlank s (chipCycle s) :=
  ((of_video_eq rfl rfl : AppendsBlank s (beamAdvance s)).trans (vsyncCheck _)).orHalted emitAndCount

theorem runChipCycles (n : Nat) (s : State) : AppendsBlank s (runChipCycles n s) := by
  induction n generalizing s with
  | zero => exact of_video_eq rfl rfl
  | succ n ih => exact (chipCycle s).orHalted ih

theorem catchUp (s : State) : AppendsBlank s (catchUp s) := by
  unfold Machine.catchUp
  split
  · exact of_video_eq rfl rfl
  · exact runChipCycles _ s

end AppendsBlank

/-- An application of a VBLANK pair that raises nothing sets the mode to bit 1 (R102). -/
theorem applyPending_vblankMode {s : State} {v : Byte} (h : s.fatal = none) (hp : s.pendingWrite = some (.vblank, v))
    (quiet : (applyPending s).fatal = none) : (applyPending s).vblankMode = v.getLsbD 1 := by
  by_cases legal : registerLegal .vblank v
  · rw [applyPending_legal h hp legal, applyHandler, hVblank_legal legal]
    rfl
  · rw [applyPending_illegal hp legal, raiseFatal_fatal] at quiet
    cases quiet

/-- Settles O31: `applyPending_vblankMode`, the registers that an operation leaves (`Effect.registers`), and the blank events
of a catch-up (`AppendsBlank.catchUp`). -/
theorem vblankModeBlanksEveryPixel : Obligations.VblankModeBlanksEveryPixel := by
  intro s h hr
  refine ⟨fun v t hp hx quiet => ?_, fun i t hx none hnew => ?_, fun vblank => ⟨?_, fun t hx => ?_⟩⟩
  · rw [exec_applyPending h] at hx
    cases hx
    exact applyPending_vblankMode h.fatal hp quiet
  · rcases (exec_next hx).registers hnew with ⟨-, same⟩ | ⟨-, same⟩ | same
    · obtain ⟨-, vblank, -⟩ := applyPending_registers s
      exact same.vblankMode.trans (vblank none)
    · exact same.vblankMode
    · exact same.vblankMode
  · exact (pixelEmitSamplesTheCurrentRegisters s h hr).1 vblank
  · rw [exec_catchUp h hr] at hx
    cases hx
    exact (AppendsBlank.catchUp s).events vblank

/-! ## One chip cycle -/

theorem beamAdvance_onRaster {s : State} (hv : s.params.valid = true) (hr : OnRaster s) : OnRaster (beamAdvance s) := by
  rw [beamAdvance_eq hr]
  exact ⟨xOf_lt (lineLength_pos hv) _, yOf_lt (linesPerFrame_pos hv) _⟩

/-- Settles O33: the check after the advance passes a legal line and raises the line's condition on another, which leaves
the rest of the cycle undone. -/
theorem chipCycleAdvancesChecksEmitsCounts : Obligations.ChipCycleAdvancesChecksEmitsCounts := by
  intro s h hr
  refine ⟨beamAdvance s, pixelEmit (beamAdvance s), exec_beamAdvance h hr,
    exec_pixelEmit (s := beamAdvance s) h (beamAdvance_onRaster h.valid hr), ⟨_, exec_chipCycle h hr⟩,
    fun legal => ?_, fun illegal => ⟨violation (beamAdvance s), violation_sync_off (s := beamAdvance s),
      violation_sync_on (s := beamAdvance s), ?_⟩⟩
  · rw [exec_chipCycle h hr, chipCycle, vsyncCheck_legal (s := beamAdvance s) legal,
      orHalted_none (s := beamAdvance s) h.fatal]
    rfl
  · rw [exec_chipCycle h hr, chipCycle, vsyncCheck_illegal (s := beamAdvance s) illegal,
      orHalted_some (raiseFatal_fatal _ _)]
    rfl

/-! ## A whole line -/

/-- Chip cycles one after the other over legal lines. -/
theorem execAll_chipCycles (n : Nat) {s : State} (h : Live s) (hr : OnRaster s) (hl : LinesLegal s n) :
    execAll (List.replicate n .chipCycle) s = .next (s.ahead n) := by
  induction n generalizing s with
  | zero => rw [List.replicate_zero, execAll, ahead_zero hr]
  | succ n ih =>
    have first : exec .chipCycle s = .next (s.ahead 1) := by
      rw [exec_chipCycle h hr, chipCycle_legal hr h.fatal (hl 0 (Nat.succ_pos n))]
    rw [List.replicate_succ, execAll_cons_next first,
      ih (s := s.ahead 1) h (ahead_onRaster h.valid 1) (linesLegal_succ hl), ahead_ahead, Nat.add_comm]

/-- The positions of a line, from its first, wrapping at the frame. -/
theorem yOf_line (p : Params) (y : Nat) {k : Nat} (hk : k < p.lineLength) :
    yOf p (k + p.lineLength * y) = y % p.linesPerFrame := by
  rw [yOf, Nat.add_mul_div_left _ _ (by omega), Nat.div_eq_of_lt hk, Nat.zero_add]

section
variable {s : State} (hx : s.gunX + 1 = s.params.lineLength)
include hx

/-- From the last position of a line the positions ahead are those of the next line. -/
theorem beamIndex_add_succ (k : Nat) : beamIndex s + k + 1 = k + s.params.lineLength * (s.gunY + 1) := by
  rw [beamIndex, Nat.mul_succ]
  omega

/-- The pixel of position `k` of the next line. -/
theorem pixelAt_nextLine {k : Nat} (hk : k < s.params.lineLength) :
    pixelAt s (beamIndex s + k + 1) = (pixelValue (s.setBeam k ((s.gunY + 1) % s.params.linesPerFrame))).map fun v =>
      { x := k, y := (s.gunY + 1) % s.params.linesPerFrame, value := v } := by
  rw [pixelAt, State.atIndex, beamIndex_add_succ hx, xOf_index hk, yOf_line _ _ hk]

theorem pixelsAhead_line_vblank (h : s.vblankMode = true) :
    pixelsAhead s s.params.lineLength = (List.range s.params.lineLength).map fun x =>
      { x := x, y := (s.gunY + 1) % s.params.linesPerFrame, value := .blank } := by
  rw [pixelsAhead, ← List.filterMap_eq_map]
  refine List.filterMap_congr fun k hk => ?_
  rw [pixelAt_nextLine hx (List.mem_range.mp hk), pixelValue_vblank (by exact h)]
  rfl

end

/-- The members of a range from `lo` on. -/
theorem filterMap_range_from {α : Type} {lo n : Nat} (h : lo ≤ n) {f : Nat → Option α} {g : Nat → α}
    (below : ∀ k, k < lo → f k = none) (above : ∀ k, lo ≤ k → k < n → f k = some (g k)) :
    (List.range n).filterMap f = (List.range' lo (n - lo)).map g := by
  have split : List.range n = List.range lo ++ List.range' lo (n - lo) := by
    have parts := List.range'_append_1 (s := 0) (m := lo) (n := n - lo)
    rw [Nat.zero_add, Nat.add_sub_cancel' h] at parts
    rw [List.range_eq_range', List.range_eq_range', parts]
  rw [split, List.filterMap_append, List.filterMap_eq_nil_iff.mpr fun k hk => below k (List.mem_range.mp hk),
    List.nil_append, ← List.filterMap_eq_map]
  refine List.filterMap_congr fun k hk => ?_
  obtain ⟨hlo, hhi⟩ := List.mem_range'_1.mp hk
  exact above k hlo (by omega)

theorem pixelsAhead_line_visible {s : State} (hx : s.gunX + 1 = s.params.lineLength) (h : s.vblankMode = false)
    (hw : s.params.hblankWidth ≤ s.params.lineLength) :
    pixelsAhead s s.params.lineLength =
      (List.range' s.params.hblankWidth (s.params.lineLength - s.params.hblankWidth)).map fun x =>
        { x := x, y := (s.gunY + 1) % s.params.linesPerFrame,
          value := .color (if s.playfieldMask.getLsbD ((x - s.params.hblankWidth) / 4) = true
            then s.playfieldColor else s.backgroundColor) } := by
  refine filterMap_range_from hw (fun k hk => ?_) fun k hlo hk => ?_
  · rw [pixelAt_nextLine hx (by omega), pixelValue_hblank (by exact h) (by exact hk), Option.map_none]
  · rw [pixelAt_nextLine hx hk, pixelValue_visible (by exact h) (by exact hlo), Option.map_some]
    rfl

/-- Settles O34: the chip cycles go ahead over the next line, all of whose positions are legal, and back to the last
position of a line. -/
theorem wholeLineAppendsItsEventsInOrder : Obligations.WholeLineAppendsItsEventsInOrder := by
  intro s h hr hx hl
  obtain ⟨-, -, -, narrow, -⟩ := valid_timing h.valid
  have legal : LinesLegal s s.params.lineLength := fun k hk => by
    rw [beamIndex_add_succ hx, yOf_line _ _ hk]
    exact hl
  have last : beamIndex s + s.params.lineLength = s.gunX + s.params.lineLength * (s.gunY + 1) := by
    rw [beamIndex, Nat.mul_succ, Nat.add_assoc]
  rw [execAll_chipCycles _ h hr legal, State.ahead, last, xOf_index hr.1, yOf_line _ _ hr.1]
  cases mode : s.vblankMode with
  | true => rw [pixelsAhead_line_vblank hx mode, if_pos rfl]
  | false => rw [pixelsAhead_line_visible hx mode narrow.le, if_neg Bool.false_ne_true]

end Sys2Proof.Machine

/-! PROOFS. The cycle synchronizer (42_cycle_synchronizer.md R120 to R125): how far a catch-up goes, what a PROCESS
completes, and the hang. -/

namespace Sys2Proof.Machine

/-! ## Catch-up -/

/-- A catch-up that does not hang is as many chip cycles as are due. -/
theorem catchUp_of_count_le {s : State} (h : s.chipCycleNum ≤ s.target) : catchUp s = runChipCycles (cyclesDue s) s :=
  if_neg (Nat.not_lt.mpr h)

theorem catchUp_of_target_lt {s : State} (h : s.target < s.chipCycleNum) : catchUp s = s.setHung true := if_pos h

/-- Over legal lines a catch-up goes ahead by the cycles due. -/
theorem catchUp_legal {s : State} (h : Live s) (hr : OnRaster s) (hc : s.chipCycleNum ≤ s.target)
    (hl : LinesLegal s (cyclesDue s)) : catchUp s = s.ahead (cyclesDue s) := by
  rw [catchUp_of_count_le hc, runChipCycles_legal _ h.valid hr h.fatal hl]

theorem chipCycleNum_ahead_cyclesDue {s : State} (h : s.chipCycleNum ≤ s.target) :
    (s.ahead (cyclesDue s)).chipCycleNum = s.target := Nat.add_sub_cancel' h

/-- Settles O35: over legal lines the catch-up is `State.ahead` by the cycles due (`catchUp_legal`). -/
theorem catchUpRunsExactlyTheCyclesDue : Obligations.CatchUpRunsExactlyTheCyclesDue := by
  intro s h hr hc hl
  refine ⟨?_, chipCycleNum_ahead_cyclesDue hc⟩
  rw [exec_catchUp h hr, catchUp_legal h hr hc hl]
  rfl

/-- The chip cycle after `n` legal ones, onto an illegal line. -/
theorem chipCycle_ahead_illegal {s : State} (hv : s.params.valid = true) (n : Nat)
    (hi : lineLegal s.params s.vsyncMode (yOf s.params (beamIndex s + n + 1)) = false) :
    chipCycle (s.ahead n) =
      raiseFatal (violation ((s.ahead n).atIndex (beamIndex s + n + 1))) ((s.ahead n).atIndex (beamIndex s + n + 1)) := by
  have position : (s.ahead n).atIndex (beamIndex (s.ahead n) + 1) = (s.ahead n).atIndex (beamIndex s + n + 1) := by
    rw [State.atIndex, State.atIndex, ahead_params, beamIndex_ahead, xOf_mod, yOf_mod]
  rw [← position]
  refine chipCycle_illegal (ahead_onRaster hv n) ?_
  rw [ahead_params, ahead_vsyncMode, beamIndex_ahead, yOf_mod]
  exact hi

/-- Settles O36: the first `n` cycles due go ahead over legal lines, and `chipCycle_ahead_illegal` is the next one. -/
theorem catchUpHaltsAtTheFirstViolatingCycle : Obligations.CatchUpHaltsAtTheFirstViolatingCycle := by
  intro s n h hr due hl hi
  have later : n + 1 + (cyclesDue s - (n + 1)) = cyclesDue s := Nat.add_sub_cancel' due
  have ended : catchUp s = chipCycle (s.ahead n) := by
    rw [catchUp_of_count_le (Nat.le_of_lt (Nat.lt_of_sub_pos (Nat.zero_lt_of_lt due))), ← later,
      runChipCycles_illegal n _ h.valid hr h.fatal hl hi]
  refine ⟨violation ((s.ahead n).atIndex (beamIndex s + n + 1)),
    violation_sync_off (s := (s.ahead n).atIndex (beamIndex s + n + 1)),
    violation_sync_on (s := (s.ahead n).atIndex (beamIndex s + n + 1)), ?_⟩
  rw [exec_catchUp h hr, ended, chipCycle_ahead_illegal h.valid n hi]
  rfl

/-! ## PROCESS -/

/-- With nothing or a legal pair pending an application raises nothing (60_exceptions.md R156). -/
theorem applyPending_quiet {s : State} (hf : s.fatal = none)
    (legal : ∀ r v, s.pendingWrite = some (r, v) → registerLegal r v) : (applyPending s).fatal = none := by
  cases hp : s.pendingWrite with
  | none => rw [applyPending_none hp, hf]
  | some w =>
    have hl := legal w.1 w.2 hp
    rw [applyPending_legal (r := w.1) (v := w.2) hf hp hl, State.setPendingWrite_fatal, applyHandler_legal hl, hf]

/-- Settles O37: the application raises nothing, and the catch-up after it goes over legal lines. -/
theorem processAppliesThenCatchesUp : Obligations.ProcessAppliesThenCatchesUp := by
  intro s h hr legal hc hl
  obtain ⟨count, -, -, -, params, hung⟩ := applyPending_frame s
  have quiet := applyPending_quiet h.live.fatal legal
  have live := applyPending_live h.live quiet
  have raster := applyPending_onRaster hr
  have cycles : cyclesDue (applyPending s) = s.params.cycleRatio * (applyPending s).cycleNum - s.chipCycleNum := by
    rw [cyclesDue, State.target, params, count]
  have reach : (applyPending s).chipCycleNum ≤ (applyPending s).target := by
    rwa [State.target, params, count]
  rw [← cycles] at hl ⊢
  refine ⟨exec_applyPending h.live, _, ?_, rfl, chipCycleNum_ahead_cyclesDue reach,
    applyPending_clears h.live.fatal quiet, quiet, hung.trans h.hung⟩
  rw [exec_process_eq_catchUp h hr quiet, exec_catchUp live raster, catchUp_legal live raster reach hl]

/-- Settles O40: on an idle chip the test of the argument comes next. -/
theorem processRefusesAnotherCounter : Obligations.ProcessRefusesAnotherCounter := by
  intro s c h hc
  rw [exec, execProcess, whenIdle_eq h, if_neg hc]

theorem whenOnRaster_fault {s : State} (h : ¬ OnRaster s) (k : State → Result) :
    whenOnRaster s k = .fault .beamOffRaster := if_neg fun on => h (onRaster_iff.mp on)

/-- Settles O45: each of the six asks for a beam on the raster after its other guards. -/
theorem offRasterBeamOperationsFault : Obligations.OffRasterBeamOperationsFault := by
  intro s h hr
  refine ⟨?_, ?_, ?_, ?_, ?_, fun hh => ?_⟩
  · rw [exec, execChipCycle, whenLive_eq h, whenOnRaster_fault hr]
  · rw [exec, execBeamAdvance, whenLive_eq h, whenOnRaster_fault hr]
  · rw [exec, execVsyncCheck, whenLive_eq h, whenOnRaster_fault hr]
  · rw [exec, execPixelEmit, whenLive_eq h, whenOnRaster_fault hr]
  · rw [exec, execCatchUp, whenLive_eq h, whenOnRaster_fault hr]
  · rw [exec, execProcess, whenIdle_eq ⟨h, hh⟩, if_pos rfl, whenOnRaster_fault hr]

/-! ## WSYNC and the beam -/

theorem uncounted_none : uncounted none = 0 := rfl

/-- With the counter and the beam aligned to a line at construction, the beam's place in its line is the chip count's
(10_state.md R39). -/
theorem gunX_eq_chipCycleNum_mod {s : State} (hv : s.params.valid = true) (hr : OnRaster s) (hb : BeamTracksCycles s)
    (hf : s.fatal = none) (aligned : s.params.cycleInit % s.params.scanlineCpuCycles = 0)
    (left : s.params.init.gunX = 0) : s.gunX = s.chipCycleNum % s.params.lineLength := by
  obtain ⟨-, -, line, -⟩ := valid_timing hv
  obtain ⟨start, index⟩ := hb
  obtain ⟨k, hk⟩ := Nat.dvd_of_mod_eq_zero aligned
  have wholeLines : s.params.cycleRatio * s.params.cycleInit = s.params.lineLength * k := by
    rw [hk, line, Nat.mul_assoc]
  have passed : s.chipCycleNum + uncounted s.fatal - s.params.cycleRatio * s.params.cycleInit + s.params.initBeam +
      s.params.lineLength * k = s.chipCycleNum + s.params.lineLength * s.params.init.gunY := by
    rw [wholeLines] at start ⊢
    rw [hf, uncounted_none, Params.initBeam, left]
    omega
  calc s.gunX = beamIndex s % s.params.lineLength := (xOf_index hr.1).symm
    _ = (s.chipCycleNum + uncounted s.fatal - s.params.cycleRatio * s.params.cycleInit + s.params.initBeam)
          % s.params.lineLength := by rw [index, Params.frameLength, Nat.mod_mul_right_mod]
    _ = (s.chipCycleNum + s.params.lineLength * s.params.init.gunY) % s.params.lineLength := by
      rw [← passed, Nat.add_mul_mod_self_left]
    _ = s.chipCycleNum % s.params.lineLength := Nat.add_mul_mod_self_left _ _ _

/-- CYCLE_RATIO times the counter after a WSYNC is CYCLE_RATIO * HBLANK_CPU_CYCLES past a line's start, if that is within
the line (42_cycle_synchronizer.md R125). -/
theorem wsyncTarget_mod_line {p : Params} (hv : p.valid = true) (inLine : p.cycleRatio * p.hblankCpuCycles < p.lineLength)
    (c : Nat) : p.cycleRatio * wsyncTarget p c % p.lineLength = p.cycleRatio * p.hblankCpuCycles := by
  obtain ⟨-, line, length, -⟩ := valid_timing hv
  have lines : p.cycleRatio * wsyncTarget p c =
      p.cycleRatio * p.hblankCpuCycles + p.lineLength * (c / p.scanlineCpuCycles + 1) := by
    rw [wsyncTarget_eq line, length]
    ring
  rw [lines, Nat.add_mul_mod_self_left, Nat.mod_eq_of_lt inLine]

/-- Settles O39: PROCESS ends with the chip count at CYCLE_RATIO times the counter, which the WSYNC has put
CYCLE_RATIO * HBLANK_CPU_CYCLES past a line's start, and the beam's place is the count's. -/
theorem wsyncResumesTheCpuBeforeTheVisibleRegion : Obligations.WsyncResumesTheCpuBeforeTheVisibleRegion := by
  intro s t v hs aligned left inLine hp hx quiet
  obtain rfl := exec_process_next hx
  have live : Live s := by
    rcases (exec_next hx).live_or_new with live | ⟨_, _, hi, _⟩
    · exact live
    · cases hi
  obtain ⟨tracked, hung⟩ := process_tracked (hs.tracked live.constructed).1 live.fatal hs.1
  have params : (process s).params = s.params := (Extends.process s).params
  have counter : (process s).cycleNum = wsyncTarget s.params s.cycleNum := by
    rw [(KeepsRegisters.process s).cycleNum, applyPending_legal live.fatal hp trivial]
    rfl
  have place : (process s).gunX = (process s).chipCycleNum % (process s).params.lineLength :=
    gunX_eq_chipCycleNum_mod tracked.valid tracked.onRaster tracked.beam quiet (by rwa [params]) (by rwa [params])
  rw [process_reaches_target quiet hung, State.target] at place
  have stands : (process s).gunX = s.params.cycleRatio * s.params.hblankCpuCycles := by
    rw [place, params, counter, wsyncTarget_mod_line live.valid inLine]
  exact ⟨stands, place, fun blank => by rwa [stands, params]⟩

/-! ## The hang -/

theorem step_hung {s : State} (h : Live s) (hr : OnRaster s) (hh : s.hung = true) (hs : Input.stop ∉ s.inbox) :
    step s = .next (hungCycle s) := by
  rw [step, if_pos hh, hungStep, withoutStop_eq_none.mpr hs]
  exact (whenLive_eq h).trans (whenOnRaster_eq hr)

theorem step_hung_stop {s : State} {rest : List Input} (hh : s.hung = true) (hs : withoutStop s.inbox = some rest) :
    step s = .next ((s.setInbox rest).setStopFlag true) := by
  rw [step, if_pos hh, hungStep, hs]
  rfl

/-- Settles O41: `catchUp` hangs on a target below the count; `hungStep` then takes the stop flag or runs a chip cycle
without the check; and the five operations ask for an idle chip. -/
theorem backwardCounterHangsWithoutACondition : Obligations.BackwardCounterHangsWithoutACondition := by
  refine ⟨fun s u h hr hx quiet below => ?_, fun s h hr hh hs => ?_, fun s before rest hh hb hs => ?_,
    fun s h hh addr v c => ?_⟩
  · rw [exec_applyPending h.live] at hx
    cases hx
    rw [exec_process_eq_catchUp h hr quiet,
      exec_catchUp (applyPending_live h.live quiet) (applyPending_onRaster hr), catchUp_of_target_lt below]
    rfl
  · refine ⟨beamAdvance s, pixelEmit (beamAdvance s), exec_beamAdvance h hr,
      exec_pixelEmit (s := beamAdvance s) h (beamAdvance_onRaster h.valid hr), step_hung h hr hh hs, ?_⟩
    rw [pixelEmit_eq]
    exact ⟨hh, rfl, rfl, h.fatal, rfl⟩
  · rw [step_hung_stop hh (by rw [hb, withoutStop_append hs])]
    rfl
  · refine ⟨?_, ?_, ?_, ?_, ?_⟩
    · rw [exec, execBusRead, whenIdle_hung h hh]
    · rw [exec, execBusWrite, whenIdle_hung h hh]
    · rw [exec, execProcess, whenIdle_hung h hh]
    · rw [exec, execContains, whenIdle_hung h hh]
    · rw [exec, execGetBusRegion, whenIdle_hung h hh]

theorem run_succ_of_step {M : Host.Core} {s t : M.State} (h : M.step s = .next t) (n : Nat) :
    M.run (n + 1) s = M.run n t := by
  simp only [Host.Core.run, h]

/-- Any number of steps of a hang, one position each (60_exceptions.md R160). -/
theorem run_hung (n : Nat) {s : State} (h : Live s) (hr : OnRaster s) (hh : s.hung = true) (hs : Input.stop ∉ s.inbox) :
    Host.Core.run Sys2Proof.core n s = .next (s.ahead n) := by
  induction n generalizing s with
  | zero => exact congrArg Host.Outcome.next (ahead_zero hr).symm
  | succ n ih =>
    have first : Sys2Proof.core.step s = .next (s.ahead 1) := by
      rw [← hungCycle_eq hr]
      exact step_hung h hr hh hs
    rw [run_succ_of_step first]
    refine (ih (s := s.ahead 1) h (ahead_onRaster h.valid 1) hh hs).trans ?_
    rw [ahead_ahead, Nat.add_comm]

/-- Settles O59: the run is `State.ahead` (`run_hung`), which touches the beam, the count and the video only. -/
theorem hungProcessEmitsPixelsForever : Obligations.HungProcessEmitsPixelsForever :=
  fun _ n h hr hh hs => ⟨run_hung n h hr hh hs, h.fatal, rfl, hh, rfl⟩

end Sys2Proof.Machine

/-! PROOFS. The step and the driving loop (60_exceptions.md R171, R173): what a step does with each input, and how a run
ends. -/

namespace Sys2Proof.Machine

/-! ## Taking one input -/

section
variable {s : State} {rest : List Input} (hh : s.hung = false)
include hh

theorem step_takes {inp : Input} (hb : s.inbox = inp :: rest) : step s = takeInput inp rest s := by
  simp only [step, hh, hb, Bool.false_eq_true, if_false]

theorem step_empty (hb : s.inbox = []) : step s = .next s := by
  simp only [step, hh, hb, Bool.false_eq_true, if_false]

section
variable {r : Request} {i : Instr} (hb : s.inbox = .request r :: rest) (hd : decode s.params r = .ok i)
include hb hd

theorem step_performs (hv : refusalOf s i = none) : step s = exec i (s.taking i rest) := by
  simp only [step_takes hh hb, takeInput, hd, hv]

theorem step_refuses {e : Refusal} (hv : refusalOf s i = some e) : step s = .refused e := by
  simp only [step_takes hh hb, takeInput, hd, hv]

end

/-- An advance of the counter, in a loop that has not left (30_encoding.md R84). -/
theorem step_cpu {n : Nat} (hb : s.inbox = .cpu n :: rest) (hl : s.loopLeft = false) :
    step s = whenIdle (s.setInbox rest) fun s =>
      .next (((s.setCycleNum (s.cycleNum + n)).setAtBoundary false).setRegionDue false) := by
  rw [step_takes hh hb, takeInput, cpuAdvance]
  exact if_neg (Bool.eq_false_iff.mp hl)

theorem step_cpu_left {n : Nat} (hb : s.inbox = .cpu n :: rest) (hl : s.loopLeft = true) :
    step s = .refused .stopped := by
  rw [step_takes hh hb, takeInput, cpuAdvance]
  exact if_pos hl

theorem step_cpu_live {n : Nat} (hb : s.inbox = .cpu n :: rest) (hl : s.loopLeft = false) (h : Live s) :
    step s = .next { s with inbox := rest, cycleNum := s.cycleNum + n, atBoundary := false, regionDue := false } := by
  rw [step_cpu hh hb hl, whenIdle_eq (s := s.setInbox rest) ⟨h, hh⟩]
  rfl

end

/-! ## Why an operation is not taken -/

theorem refusalOf_startupOver {s : State} (hd : s.regionDue = false) : refusalOf s .getBusRegion = some .startupOver := by
  simp only [refusalOf, hostVisible, hd, Bool.true_eq_false, if_false, and_self, if_true]

theorem refusalOf_internal {s : State} {i : Instr} (h : hostVisible i = false) :
    refusalOf s i = some .internalOperation := if_pos h

theorem refusalOf_stopped {s : State} {i : Instr} (h : hostVisible i = true) (hs : byStartup i = false)
    (hl : s.loopLeft = true) : refusalOf s i = some .stopped := by
  have other : i ≠ .getBusRegion := by
    rintro rfl
    cases hs
  simp [refusalOf, h, hs, hl, other]

/-- Everything between the start-up and a PROCESS is part of an instruction (60_exceptions.md R171). -/
theorem boundaryAfter_eq_false {i : Instr} (hs : byStartup i = false) (hp : ∀ c, i ≠ .process c) (b : Bool) :
    boundaryAfter i b = false := by
  cases i with
  | new a b => cases hs
  | getBusRegion => cases hs
  | process c => exact absurd rfl (hp c)
  | _ => rfl

theorem taking_eq (i : Instr) (rest : List Input) (s : State) : s.taking i rest =
    { s with inbox := rest, atBoundary := boundaryAfter i s.atBoundary, regionDue := regionDueAfter i } := rfl

/-- Settles O54: the cases of `refusalOf`, and an operation on a constructed chip leaves the surroundings' fields as they
were when it was taken (`Extends`). -/
theorem stepRunsTheDecodedOperation : Obligations.StepRunsTheDecodedOperation := by
  intro s r i rest hh hb hd
  refine ⟨fun visible due inLoop => ?_, fun hi done => ?_, fun visible running left => ?_, fun internal => ?_,
    fun t hx hc => ?_⟩
  · rw [step_performs hh hb hd (refusalOf_eq_none.mpr ⟨visible, due, inLoop⟩), taking_eq]
  · exact step_refuses hh hb hd (by rw [hi, refusalOf_startupOver done])
  · exact step_refuses hh hb hd (refusalOf_stopped visible running left)
  · exact step_refuses hh hb hd (refusalOf_internal internal)
  cases hv : refusalOf s i with
  | some e =>
    rw [step_refuses hh hb hd hv] at hx
    cases hx
  | none =>
    rw [step_performs hh hb hd hv] at hx
    have effect := exec_next hx
    have ext := effect.extends hc
    refine ⟨ext.inbox, ext.atBoundary, ext.stopFlag,
      ext.regionDue.trans (regionDueAfter_eq_false (effect.ne_new hc)), fun running hp => ?_⟩
    have inside : t.atBoundary = false := ext.atBoundary.trans (boundaryAfter_eq_false running hp _)
    rw [State.loopLeft, inside, Bool.and_false, Bool.false_and]

/-- Settles O55: the two inputs that are no request, and the empty inbox. -/
theorem stepTakesTheSurroundingsInputs : Obligations.StepTakesTheSurroundingsInputs := by
  intro s rest hh
  refine ⟨fun n hb h hl => step_cpu_live hh hb hl h, fun hb => ?_, step_empty hh⟩
  rw [step_takes hh hb]
  rfl

/-! ## The three ends of a run -/

theorem loopLeft_iff {s : State} : s.loopLeft = true ↔ (s.stopFlag = true ∧ s.atBoundary = true) ∧ s.fatal = none := by
  simp [State.loopLeft]

/-- While PROCESS hangs, a step takes the stop flag from behind the advance that waits, or runs a chip cycle. -/
theorem step_hung_cpu {s : State} {n : Nat} {rest : List Input} (h : Live s) (hr : OnRaster s) (hh : s.hung = true)
    (hb : s.inbox = .cpu n :: rest) :
    ∃ t rest', step s = .next t ∧ t.hung = true ∧ t.fatal = none ∧ t.cycleNum = s.cycleNum ∧
      t.pendingWrite = s.pendingWrite ∧ t.inbox = .cpu n :: rest' := by
  by_cases hs : Input.stop ∈ s.inbox
  · obtain ⟨rest', hrest⟩ : ∃ rest', withoutStop rest = some rest' := by
      refine Option.ne_none_iff_exists'.mp fun none => withoutStop_eq_none.mp none ?_
      simpa [hb] using hs
    have taken : withoutStop s.inbox = some (.cpu n :: rest') := by
      simp only [hb, withoutStop, hrest, Option.map_some]
    exact ⟨_, rest', step_hung_stop hh taken, hh, h.fatal, rfl, rfl, rfl⟩
  · refine ⟨_, rest, step_hung h hr hh hs, ?_⟩
    rw [hungCycle_eq hr]
    exact ⟨hh, h.fatal, rfl, rfl, hb⟩

/-- Settles O60: the guards of `cpuAdvance` in their order, and `step_hung_cpu`. -/
theorem drivingLoopEndsInOneOfThreeWays : Obligations.DrivingLoopEndsInOneOfThreeWays := by
  intro s n rest h hr hb
  refine ⟨fun hh hf running => ?_, fun hh hf stop boundary => ?_, fun hh e hf => ?_, fun hh hf => ?_⟩
  · have inLoop : s.loopLeft = false := Bool.eq_false_iff.mpr fun left => running (loopLeft_iff.mp left).1
    exact step_cpu_live hh hb inLoop ⟨h, hf⟩
  · exact step_cpu_left hh hb (loopLeft_iff.mpr ⟨⟨stop, boundary⟩, hf⟩)
  · have inLoop : s.loopLeft = false := Bool.eq_false_iff.mpr fun left => by
      rw [(loopLeft_iff.mp left).2] at hf
      cases hf
    rw [step_cpu hh hb inLoop, whenIdle, whenLive_halted (s := s.setInbox rest) h hf]
  · exact step_hung_cpu ⟨h, hf⟩ hr hh hb

end Sys2Proof.Machine
